-- ==== Sys2Proof/Word.lean ====
section
/-! DEFINITION. The words of the machine (00_scope.md, Conventions): a memory word of 32 bits, a 16-bit
free-running index, and a kind set (one bit a notice kind). -/

namespace Sys2Proof

/-- A word: 32 bits, four bytes. Byte addresses are words too. -/
abbrev Word := BitVec 32

/-- A 16-bit free-running index (R2); arithmetic on it is modulo 65,536. -/
abbrev Index := BitVec 16

/-- A kind set (10.1): a field of bits, one for each notice kind; a kind is in the set when its bit is 1. -/
abbrev KindSet := BitVec 6

/-- A ring id, 0 to 23. -/
abbrev RingId := Fin 24

end Sys2Proof
end

