-- ==== Sys2Proof/Syntax.lean ====
section
/-! DEFINITION. The commands of the block: one constructor of `Instr` for each row of
spec/opcode_table.json, with what the outside world brings with that happening. -/

namespace Sys2Proof

/-- The two processor ports (00_scope.md, Ports). -/
inductive Port where
  | a
  | b
deriving DecidableEq, Repr

/-- One word of a WRITE: its data and its four byte enables (R160). Enable `i` belongs to bits `8i+7` to
`8i` (PRESUMED, log entry 12). -/
structure WriteWord where
  data : Word
  enables : BitVec 4
deriving DecidableEq, Repr

/-- The direction of an access with what only that direction carries (R160): a READ its length in words,
a WRITE its words. -/
inductive Transfer where
  | read (length : Nat)
  | write (words : List WriteWord)
deriving DecidableEq, Repr

/-- An access as it stands on a bus: the byte address of its first word, and the transfer. -/
structure Access where
  addr : Word
  transfer : Transfer
deriving DecidableEq, Repr

/-- A request on a port bus (R160): an access with the processor's tag. -/
structure Request where
  access : Access
  tag : BitVec 8
deriving DecidableEq, Repr

/-- The status of a memory response (R174, R175). -/
inductive MemStatus where
  | okay
  | memErr
deriving DecidableEq, Repr

/-- Words 2 to 7 of a command slot: parameters or results (10.4, 10.5). -/
structure Params where
  w2 : Word
  w3 : Word
  w4 : Word
  w5 : Word
  w6 : Word
  w7 : Word
deriving DecidableEq, Repr

/-- The eight words of a command slot (10.4). -/
structure SlotWords where
  w0 : Word
  w1 : Word
  params : Params
deriving DecidableEq, Repr

/-- The commands of the block. A command is one whole step of the part (95_what_each_step_holds.md). -/
inductive Instr where
  /-- RESET asserts (R176). -/
  | resetAssert
  /-- RESET releases; the straps are sampled (R176, R120). -/
  | resetRelease (ctlBase : BitVec 21) (mgmtSel : Port)
  /-- PRST_A or PRST_B asserts (R177, R178). -/
  | portResetAssert (p : Port)
  /-- PRST_A or PRST_B deasserts (R179). -/
  | portResetDeassert (p : Port)
  /-- The port interface takes the offered request (R163). -/
  | acceptance (p : Port) (q : Request)
  /-- The port's oldest QUEUED request is presented (R164). -/
  | presentation (p : Port)
  /-- The arbiter grants one request (R172). -/
  | grant
  /-- Memory answers a port request (R175). -/
  | memoryResponse (status : MemStatus) (data : List Word)
  /-- A response that answers a discarded entry, or none, arrives (R175). -/
  | discardedResponse
  /-- The front DONE entry of a port leaves on its bus (R166). -/
  | responseDeparture (p : Port)
  /-- Memory answers a seed read (R41). -/
  | seedResponse (status : MemStatus) (word : Word)
  /-- Memory answers a fetch (R127, R128). -/
  | fetchResponse (status : MemStatus) (words : SlotWords)
  /-- Memory answers a report burst (R131, R132). -/
  | reportBurstResponse (status : MemStatus)
  /-- Memory answers a report's tail write (R131, R132). -/
  | reportTailResponse (status : MemStatus)
  /-- Memory answers the initialisation burst (R126). -/
  | initialisationBurstResponse (status : MemStatus)
  /-- Memory answers the halt burst (R133). -/
  | haltBurstResponse (status : MemStatus)
  /-- Memory answers the restart status write (R134). -/
  | restartStatusWriteResponse (status : MemStatus)
  /-- The engine executes a fetched command of undefined code (R137). -/
  | badCommand
  /-- The engine executes DEFINE_RING (R140 to R142). -/
  | defineRing
  /-- The engine executes RELEASE_RING (R143). -/
  | releaseRing
  /-- The engine executes ARM_RING (R144). -/
  | armRing
  /-- The engine executes DISARM_RING (R146). -/
  | disarmRing
  /-- The engine executes CLEAR_FAULT (R147). -/
  | clearFault
  /-- The engine executes SET_MARKS (R148). -/
  | setMarks
  /-- The engine executes SET_GUARD (R149, R150). -/
  | setGuard
  /-- The engine executes SET_NOTIFY (R151). -/
  | setNotify
  /-- The engine executes QUERY_RING (R153 to R155). -/
  | queryRing
  /-- The engine executes RESET_COUNTS (R152). -/
  | resetCounts
  /-- The engine executes SETUP_NOTICE (R156, R157). -/
  | setupNotice
  /-- The engine executes NOTICE_OFF (R158). -/
  | noticeOff
  /-- The engine executes RESET_TABLE (R159). -/
  | resetTable
  /-- The NOTICE requester serves a setup job (R109). -/
  | setupJob
  /-- Memory answers a setup write (R107). -/
  | setupWriteResponse (status : MemStatus)
  /-- The NOTICE requester serves a record job (R109, R110). -/
  | recordTaking
  /-- Memory answers a record burst (R111, R116). -/
  | recordBurstResponse (status : MemStatus)
  /-- Memory answers a notice head write (R111, R116). -/
  | noticeHeadWriteResponse (status : MemStatus)
  /-- The time base steps (R67). -/
  | timeBaseStep
  /-- The time base steps and the write held by port `p` expires at that step (R77). -/
  | holdExpiry (p : Port)
deriving DecidableEq, Repr

end Sys2Proof
end

