-- ==== Sys2Proof/Decode.lean ====
section
/-! DEFINITION. The command a word spells by the bits of spec/opcode_table.json. No row of the table
gives any bits (98_reader.md: rows with fixed bits 0, rows with fields 0), so no word spells a command.
The codes of the command slots (R184) are read in Machine/Operands.lean. -/

namespace Sys2Proof

/-- The command an `nbits`-bit word spells by the table's bits: none, since the table gives none. -/
def decodeTableWord (_nbits _w : Nat) : Option Instr := none

end Sys2Proof
end

