-- ==== Sys2Proof/Machine/State.lean ====
section
/-! DEFINITION. The state of the BKL2416: plain data, holding everything the manual gives the part, the
queue of waiting commands, and the state after reset. -/

namespace Sys2Proof.Machine

/-! ### Pairs of one thing for each port -/

/-- One value for port A and one for port B. -/
structure PerPort (α : Type) where
  a : α
  b : α
deriving DecidableEq, Repr

/-! ### Ring table (01_rings_and_the_ring_table.md) -/

/-- The ten violation kinds (1.5, 10.1). -/
inductive ViolationKind where
  | overwrite
  | staleRead
  | wrongSide
  | headJump
  | tailJump
  | indexForm
  | wrongOwner
  | crossing
  | holdConflict
  | holdExpired
deriving DecidableEq, Repr

/-- Guard mode (R3). -/
inductive GuardMode where
  | observe
  | refuse
  | hold
deriving DecidableEq, Repr

/-- Recovery (R3). -/
inductive Recovery where
  | manual
  | quiesce
deriving DecidableEq, Repr

/-- Which of a ring's two index words (R2). -/
inductive IndexWord where
  | head
  | tail
deriving DecidableEq, Repr

/-- The descriptor of a ring (R3), without the marks. -/
structure Descriptor where
  dataBase : Word
  /-- S, in words. -/
  slotSize : Nat
  /-- N. -/
  slotCount : Nat
  headAddr : Word
  tailAddr : Word
  producer : Port
  guardMode : GuardMode
  /-- In microseconds. -/
  holdLimit : Nat
  recovery : Recovery
  /-- Whether consumer writes to occupied slots are permitted (R48). -/
  writeback : Bool
  notify : Port
  mask : KindSet
deriving DecidableEq, Repr

/-- Why a ring entered FAULTED: the fault kind with the fields R7 lists for it. -/
inductive FaultCause where
  | index (kind : ViolationKind) (port : Port) (address : Word) (written : Word)
  | peerReset
  | memoryError (port : Port) (address : Word)
deriving DecidableEq, Repr

/-- The fault record (R7). -/
structure FaultRecord where
  cause : FaultCause
  time : Word
deriving DecidableEq, Repr

/-- The command that started a seeding (R6); CLEAR_FAULT keeps the fault record it clears aside (R7). -/
inductive SeedPurpose where
  | arm
  | clearFault (setAside : FaultRecord)
deriving DecidableEq, Repr

/-- The step of a seeding (R6). -/
inductive SeedStep where
  | draining
  | reading
deriving DecidableEq, Repr

/-- A seed once answered: the word read, or MEMERR (R6). -/
inductive Seed where
  | word (w : Word)
  | memErr
deriving DecidableEq, Repr

/-- The seeding record (R6). -/
structure SeedingRecord where
  purpose : SeedPurpose
  step : SeedStep
  peerReset : Bool
  headSeed : Option Seed
  tailSeed : Option Seed
deriving DecidableEq, Repr

/-- The state of a ring that is not FREE, with the records present in it (R5 to R8). -/
inductive RingPhase where
  | defined
  | seeding (rec : SeedingRecord)
  | tracking (head tail : Index)
  | faulted (fault : FaultRecord) (obsHead obsTail : Option Index)
deriving DecidableEq, Repr

/-- What a ring entry holds in every state but FREE: descriptor, marks and phase (R3, R86). -/
structure RingBody where
  desc : Descriptor
  highMark : Option Nat
  lowMark : Option Nat
  phase : RingPhase
deriving DecidableEq, Repr

/-- The last-violation record (R23). -/
structure LastViolation where
  kind : ViolationKind
  port : Port
  address : Word
  time : Word
deriving DecidableEq, Repr

/-- A ring entry (R3); `body` absent is the state FREE. -/
structure RingEntry where
  body : Option RingBody
  count : BitVec 16
  last : Option LastViolation
  pend : PerPort KindSet
deriving DecidableEq, Repr

/-- An entry at its power-on values (R10, R17). -/
def RingEntry.free : RingEntry := { body := none, count := 0, last := none, pend := ⟨0, 0⟩ }

/-! ### Port interfaces (09, R162) -/

/-- The class the classifier names (R167). -/
inductive AccessClass where
  | plain
  | ringData (r : RingId)
  | headWord (r : RingId)
  | tailWord (r : RingId)
  | controlHeader
  | commandSlot
  | noticeData (p : Port)
  | noticeHead (p : Port)
  | noticeTail (p : Port)
  | crossing
deriving DecidableEq, Repr

/-- The pending apply a forwarded request carries to its grant (R165). A notice tail write is the
presenting port's own (R113). -/
inductive ApplyMark where
  | ringIndex (r : RingId) (w : IndexWord)
  | noticeTail
  | commandHead
deriving DecidableEq, Repr

/-- The status of a response on a port bus (R161). -/
inductive BusStatus where
  | okay
  | memErr
  | refused
deriving DecidableEq, Repr

/-- The stage of an in-flight entry (R162); DONE holds the response status and read data. -/
inductive Stage where
  | queued
  | stalled
  | eligible
  | held
  | granted
  | done (status : BusStatus) (data : List Word)
deriving DecidableEq, Repr

/-- An entry of the in-flight list (R162), with the class and mark of its presentation (R165, R40). The
serial says which entry it is (log entry 7). -/
structure InFlight where
  serial : Nat
  request : Request
  stage : Stage
  cls : Option AccessClass
  mark : Option ApplyMark
deriving DecidableEq, Repr

/-- A port interface (R162). -/
structure PortIface where
  inFlight : List InFlight
  nextSerial : Nat
deriving DecidableEq, Repr

/-- A response on a port bus (R161). -/
structure Response where
  tag : BitVec 8
  status : BusStatus
  data : List Word
deriving DecidableEq, Repr

/-! ### Hold unit (04, R69) -/

/-- A hold slot in HOLDING (R69). -/
structure HoldSlot where
  ring : RingId
  slots : List Nat
  first : Word
  start : Word
deriving DecidableEq, Repr

/-! ### Notice queue logic and notice writer (05, 06) -/

/-- A notice source (5.3). -/
inductive Source where
  | ring (r : RingId)
  | device
deriving DecidableEq, Repr

/-- The phase of a record in flight (R103), and so which of its two writes failed. -/
inductive RecordPhase where
  | burst
  | head
deriving DecidableEq, Repr

/-- A record in flight (R110). `cleared`: its ring has been started afresh or cleared since the taking, so
on failure it returns nothing (R96, R99). -/
structure RecordInFlight where
  source : Source
  kinds : KindSet
  words : List Word
  slot : Nat
  phase : RecordPhase
  cleared : Bool
deriving DecidableEq, Repr

/-- The failing write of a HALTED unit (R103, R116). -/
structure FailingWrite where
  address : Word
  which : RecordPhase
deriving DecidableEq, Repr

/-- The state of a unit that is not OFF with what R103 gives that state: RUNNING in step SETTING_UP,
RUNNING in step READY, HALTED. -/
inductive UnitPhase where
  | settingUp
  | ready (record : Option RecordInFlight) (closing : Bool)
  | halted (failing : FailingWrite)
deriving DecidableEq, Repr

/-- A notice unit that is not OFF (R103). -/
structure NoticeUnit where
  base : Word
  /-- M. -/
  slotCount : Nat
  headAddr : Word
  tailAddr : Word
  head : Index
  tail : Index
  seq : Index
  phase : UnitPhase
deriving DecidableEq, Repr

/-- The writes of the notice writer (R107, R111). -/
inductive NoticeWrite where
  | setupHead
  | setupTail
  | recordBurst
  | recordHead
deriving DecidableEq, Repr

/-- The job the NOTICE requester does (R109): the unit it serves and its current write, which waits at the
arbiter until its grant. -/
structure NoticeJob where
  unit : Port
  write : NoticeWrite
  access : Access
  waiting : Bool
deriving DecidableEq, Repr

/-- The NOTICE requester (R109). -/
structure NoticeRequester where
  lastServed : Port
  job : Option NoticeJob
deriving DecidableEq, Repr

/-! ### Command engine (07, R125) -/

/-- The status of a command (10.1). -/
inductive CommandStatus where
  | ok
  | badCommand
  | badRing
  | wrongState
  | badField
  | overlap
  | seedInvalid
  | memoryError
  | peerReset
deriving DecidableEq, Repr

/-- The engine's memory accesses (R125, R171). -/
inductive EngineAccess where
  | initBurst
  | fetch
  | reportBurst
  | tailWrite
  | haltBurst
  | statusWrite
  | seedRead (r : RingId) (w : IndexWord)
deriving DecidableEq, Repr

/-- An engine access not yet granted, as it stands at the arbiter. -/
structure EngineRequest where
  kind : EngineAccess
  access : Access
deriving DecidableEq, Repr

/-- Halt cause (R125). -/
inductive HaltCause where
  | fetchError
  | reportError
deriving DecidableEq, Repr

/-- Halt cause, halt slot and halt address (R125). -/
structure HaltInfo where
  cause : HaltCause
  slot : Fin 32
  address : Word
deriving DecidableEq, Repr

/-- What a WAITING engine waits for (R130). -/
inductive EngineWait where
  | seeding (r : RingId)
  | setup (p : Port)
  | noticeOff (p : Port)
deriving DecidableEq, Repr

/-- The state of the command engine (R125). -/
inductive EngineState where
  | init
  | idle
  | fetching
  | executing
  | waiting (w : EngineWait)
  | reporting
  | halted (info : HaltInfo)
deriving DecidableEq, Repr

/-- The current command (R125): the eight words fetched and the index they were fetched from. -/
structure CurrentCommand where
  index : Index
  words : SlotWords
deriving DecidableEq, Repr

/-- The pending report (R125). -/
structure PendingReport where
  index : Index
  status : CommandStatus
  words : Params
deriving DecidableEq, Repr

/-- The report phase (R125). -/
inductive ReportPhase where
  | burst
  | tail
deriving DecidableEq, Repr

/-- The command engine (R125). `requests` are its accesses not yet granted, the first at the arbiter, the
others presented each when the one before it has been granted (R134, log entry 13). -/
structure Engine where
  state : EngineState
  head : Index
  tail : Index
  current : Option CurrentCommand
  report : Option PendingReport
  phase : Option ReportPhase
  requests : List EngineRequest
deriving DecidableEq, Repr

/-! ### Memory arbiter and memory port (09, R171 to R175) -/

/-- The four requesters (R171). -/
inductive Requester where
  | port (p : Port)
  | engine
  | notice
deriving DecidableEq, Repr

/-- Whose request an outstanding entry is (R174). For a port request: its in-flight entry (by serial), its
ring, and the applied mark. -/
inductive Origin where
  | port (p : Port) (serial : Nat) (ring : Option RingId) (applied : Bool)
  | engine (kind : EngineAccess)
  | notice (unit : Port) (write : NoticeWrite)
deriving DecidableEq, Repr

/-- An entry of the outstanding list (R174). -/
structure OutEntry where
  origin : Origin
  discarded : Bool
deriving DecidableEq, Repr

/-! ### The state -/

/-- The state of the part, its pins, and the queue of waiting commands. -/
structure State where
  /-- The commands waiting, first in, first out (the model's own). -/
  pending : List Instr
  /-- RESET is asserted (R176). -/
  resetLine : Bool
  /-- PRST_A, PRST_B are asserted (R177). -/
  portReset : PerPort Bool
  /-- The sampled CTLBASE strap, address bits 31 to 11 (R120). -/
  ctlBase : BitVec 21
  /-- The sampled MGMT_SEL strap: the managing port (R120). -/
  mgmt : Port
  /-- The time base (R67). -/
  time : Word
  /-- The ring table (1.2). -/
  rings : Vector RingEntry 24
  /-- The two port interfaces (R162). -/
  ports : PerPort PortIface
  /-- The two hold slots; absent is EMPTY (R69). -/
  holds : PerPort (Option HoldSlot)
  /-- The DEVICE source's pending sets (5.3). -/
  device : PerPort KindSet
  /-- The two notice queues, front first (R94). -/
  queues : PerPort (List Source)
  /-- The two notice units; absent is OFF (R103). -/
  units : PerPort (Option NoticeUnit)
  /-- The NOTICE requester (R109). -/
  requester : NoticeRequester
  /-- The command engine (R125). -/
  engine : Engine
  /-- The control window is in the region map (R121). -/
  windowMapped : Bool
  /-- The arbiter's priority order, highest first (R172). -/
  order : List Requester
  /-- The memory port's outstanding list, oldest first (R174). -/
  outstanding : List OutEntry
  /-- What the memory port has issued on the memory bus, oldest first (R174; log entry 6). -/
  memoryBus : List Access
  /-- What has left on each port bus, oldest first (R166; log entry 6). -/
  responseBus : PerPort (List Response)
  /-- The counter the free values are applied to (the model's own; log entry 8). -/
  freeCount : Nat
deriving DecidableEq, Repr

/-- Why a step can stop with a fault: never. No rule of the manual stops the part, so there is no
constructor (safe: nothing is claimed of a stopped machine). -/
inductive Fault where
deriving DecidableEq, Repr

/-- Why a command can be refused. -/
inductive Refusal where
  /-- Raised only by an arm of `exec` whose command has no meaning; every command of this model has one,
  so nothing raises it (safe: it stops). -/
  | notModelled (mnemonic : String)
deriving DecidableEq, Repr

/-- A port interface with an empty in-flight list (R162). -/
def PortIface.empty : PortIface := { inFlight := [], nextSerial := 0 }

/-- The command engine at its power-on values (R125), before the release of RESET presents anything. -/
def Engine.powerOn : Engine :=
  { state := .init, head := 0, tail := 0, current := none, report := none, phase := none, requests := [] }

/-- The arbiter's order at the release of power-on reset (R172, R176). -/
def powerOnOrder : List Requester := [.port .a, .port .b, .engine, .notice]

/-- The machine right after the assertion of RESET (R176, R10, R67, R69, R94, R103, R125, R162). The strap
fields, the levels of PRST_A and PRST_B, and the model's own fields hold values of the model's choice
(log entries 4, 5, 6, 7, 8). -/
def State.reset : State where
  pending := []
  resetLine := true
  portReset := ⟨false, false⟩
  ctlBase := 0
  mgmt := .a
  time := 0
  rings := Vector.replicate 24 RingEntry.free
  ports := ⟨PortIface.empty, PortIface.empty⟩
  holds := ⟨none, none⟩
  device := ⟨0, 0⟩
  queues := ⟨[], []⟩
  units := ⟨none, none⟩
  requester := { lastServed := .b, job := none }
  engine := Engine.powerOn
  windowMapped := false
  order := powerOnOrder
  outstanding := []
  memoryBus := []
  responseBus := ⟨[], []⟩
  freeCount := 0

end Sys2Proof.Machine
end

