-- ==== Sys2Proof/WellFormed.lean ====
section
/-! DEFINITION. Which commands the outside world can bring at all: a request the port bus can carry
(R160), and read data no longer than a request (R161). -/

namespace Sys2Proof

/-- The number of words a transfer covers (R160). -/
def Transfer.length : Transfer → Nat
  | .read n => n
  | .write ws => ws.length

/-- What a port bus can carry (R160): an address that is a multiple of 4, and 1 to 8 words. -/
def Access.wf (x : Access) : Bool :=
  x.addr.toNat % 4 == 0 && (1 ≤ x.transfer.length && x.transfer.length ≤ 8)

/-- A request is well formed when its access is; any tag may stand with it. -/
def Request.wf (q : Request) : Bool := q.access.wf

/-- The well-formed commands: the operands the outside world can bring. -/
def Instr.wf : Instr → Bool
  | .acceptance _ q => q.wf
  | .memoryResponse _ data => data.length ≤ 8
  | .resetAssert => true
  | .resetRelease _ _ => true
  | .portResetAssert _ => true
  | .portResetDeassert _ => true
  | .presentation _ => true
  | .grant => true
  | .discardedResponse => true
  | .responseDeparture _ => true
  | .seedResponse _ _ => true
  | .fetchResponse _ _ => true
  | .reportBurstResponse _ => true
  | .reportTailResponse _ => true
  | .initialisationBurstResponse _ => true
  | .haltBurstResponse _ => true
  | .restartStatusWriteResponse _ => true
  | .badCommand => true
  | .defineRing => true
  | .releaseRing => true
  | .armRing => true
  | .disarmRing => true
  | .clearFault => true
  | .setMarks => true
  | .setGuard => true
  | .setNotify => true
  | .queryRing => true
  | .resetCounts => true
  | .setupNotice => true
  | .noticeOff => true
  | .resetTable => true
  | .setupJob => true
  | .setupWriteResponse _ => true
  | .recordTaking => true
  | .recordBurstResponse _ => true
  | .noticeHeadWriteResponse _ => true
  | .timeBaseStep => true
  | .holdExpiry _ => true

end Sys2Proof
end

