-- ==== Sys2Proof/Machine/Bits.lean ====
section
/-! DEFINITION. Indices, words and accesses: index arithmetic (R2), the full-word form of index words
(10.2, R25), the words an access covers (R160), and access to a pair's member. -/

namespace Sys2Proof.Machine

/-! ### Ports and pairs -/

/-- The other port of a port (00_scope.md, Ports). -/
def other : Port → Port
  | .a => .b
  | .b => .a

/-- A port as a field stores it: 0 is port A, 1 is port B (R181). -/
def portBit : Port → BitVec 1
  | .a => 0
  | .b => 1

/-- The member of a pair that belongs to port `p`. -/
def PerPort.get {α : Type} (x : PerPort α) : Port → α
  | .a => x.a
  | .b => x.b

/-- The pair with the member of port `p` replaced. -/
def PerPort.set {α : Type} (x : PerPort α) (p : Port) (v : α) : PerPort α :=
  match p with
  | .a => { x with a := v }
  | .b => { x with b := v }

/-! ### Index arithmetic (R2) -/

/-- `(x - y) mod 65,536`: a fill or an advance (00_scope.md, Fill and Advance). -/
def distance (x y : Index) : Nat := (x - y).toNat

/-- The slot an index names in a ring of `n` slots (R2). -/
def slotIndex (i : Index) (n : Nat) : Nat := i.toNat % n

/-- Slot `s` is occupied when `(s - tail) mod N` is less than the fill (R2). `N` divides 65,536, so
`(s - tail) mod N` is computed from `s + 65,536 - tail`. -/
def slotOccupied (n : Nat) (head tail : Index) (s : Nat) : Bool :=
  (s + 65536 - tail.toNat) % n < distance head tail

/-! ### Index words (10.2) -/

/-- Bits 15 to 0 of a word: the index an index word holds. -/
def lowHalf (w : Word) : Index := w.extractLsb' 0 16

/-- Bits 31 to 16 of a word. -/
def highHalf (w : Word) : BitVec 16 := w.extractLsb' 16 16

/-- An index as the part writes it to memory: full-word form (R182). -/
def indexAsWord (i : Index) : Word := (0#16 ++ i : BitVec 32)

/-- The form check (R25, R113, R123): all four bytes enabled and zero in the upper 16 bits. -/
def fullWordForm (w : WriteWord) : Bool := w.enables == 0xF#4 && highHalf w.data == 0#16

/-- One byte of a written word, or zero when the write does not enable it. -/
def enabledByte (w : WriteWord) (i : Nat) : BitVec 8 :=
  if w.enables.getLsbD i then w.data.extractLsb' (8 * i) 8 else 0#8

/-- The written value a fault record holds (R7): each byte not enabled recorded as zero. -/
def writtenValue (w : WriteWord) : Word :=
  (enabledByte w 3 ++ enabledByte w 2 ++ enabledByte w 1 ++ enabledByte w 0 : BitVec 32)

/-! ### Accesses (R160) -/

/-- The byte addresses of the words an access covers, lowest first. -/
def coveredWords (x : Access) : List Nat :=
  (List.range x.transfer.length).map fun i => x.addr.toNat + 4 * i

/-- The covered words would run past FFFFFFFFH (R160). -/
def runsPast (x : Access) : Bool := 2 ^ 32 < x.addr.toNat + 4 * x.transfer.length

/-- The access is a WRITE. -/
def isWrite (x : Access) : Bool :=
  match x.transfer with
  | .read _ => false
  | .write _ => true

/-- The word of a single-word WRITE. -/
def singleWrite (x : Access) : Option WriteWord :=
  match x.transfer with
  | .write [w] => some w
  | _ => none

/-- A write by the part, all bytes enabled (R110, R126, R131, R133, R182). -/
def partWrite (addr : Word) (words : List Word) : Access :=
  { addr := addr, transfer := .write (words.map fun w => { data := w, enables := 0xF#4 }) }

/-- A read by the part (R41, R127). -/
def partRead (addr : Word) (length : Nat) : Access := { addr := addr, transfer := .read length }

/-- The data of a refused request's response (R53): one zero word for each word of a READ, none for a
WRITE. -/
def refusedData (x : Access) : List Word :=
  match x.transfer with
  | .read n => List.replicate n 0
  | .write _ => []

/-! ### Lists -/

/-- Replace the first member of a list that meets a test. -/
def updateFirst {α : Type} (test : α → Bool) (f : α → α) : List α → List α
  | [] => []
  | x :: xs => if test x then f x :: xs else x :: updateFirst test f xs

/-- The members of a list, each once, in order of first appearance. -/
def distinct (l : List Nat) : List Nat := l.dedup

end Sys2Proof.Machine
end

