-- ==== Sys2Proof/Machine/Ops.lean ====
section
/-! DEFINITION. The shared operations over the state: one home for every read and write of a part of the
state, the raising and gathering of notice kinds (R93, R96), the violation count (R22, R23), fault entry
(R57, R58), the hold slots (R74, R82), the engine's accesses (R126, R127, R131 to R134) and its reports
(R129, R130). -/

namespace Sys2Proof.Machine

/-! ### Access to the parts of the state -/

/-- The 24 ring ids, in order. -/
def ringIds : List RingId := List.finRange 24

/-- The entry of ring `r`. -/
def State.ring (s : State) (r : RingId) : RingEntry := s.rings.get r

/-- Replace the entry of ring `r`. -/
def State.setRing (s : State) (r : RingId) (e : RingEntry) : State :=
  { s with rings := s.rings.set r e }

/-- Change every ring entry. -/
def State.mapRings (s : State) (f : RingEntry → RingEntry) : State :=
  { s with rings := ⟨⟨s.rings.toList.map f⟩, by simp⟩ }

/-- The in-flight list of port `p` (R162). -/
def State.inFlight (s : State) (p : Port) : List InFlight := (s.ports.get p).inFlight

/-- Replace the in-flight list of port `p`. -/
def State.setInFlight (s : State) (p : Port) (l : List InFlight) : State :=
  { s with ports := s.ports.set p { s.ports.get p with inFlight := l } }

/-- Replace the hold slot of port `p`. -/
def State.setHold (s : State) (p : Port) (h : Option HoldSlot) : State :=
  { s with holds := s.holds.set p h }

/-- Replace the DEVICE pending set for port `p`. -/
def State.setDevice (s : State) (p : Port) (k : KindSet) : State :=
  { s with device := s.device.set p k }

/-- Replace the notice queue of port `p`. -/
def State.setQueue (s : State) (p : Port) (q : List Source) : State :=
  { s with queues := s.queues.set p q }

/-- Replace the notice unit of port `p`. -/
def State.setUnit (s : State) (p : Port) (u : Option NoticeUnit) : State :=
  { s with units := s.units.set p u }

/-- Replace the NOTICE requester's job. -/
def State.setJob (s : State) (j : Option NoticeJob) : State :=
  { s with requester := { s.requester with job := j } }

/-- Replace the command engine. -/
def State.setEngine (s : State) (e : Engine) : State := { s with engine := e }

/-- Replace the outstanding list. -/
def State.setOutstanding (s : State) (l : List OutEntry) : State := { s with outstanding := l }

/-! ### In-flight entries by stage (R162) -/

/-- The entry has stage QUEUED. -/
def InFlight.isQueued (e : InFlight) : Bool := e.stage == .queued

/-- The entry has stage STALLED. -/
def InFlight.isStalled (e : InFlight) : Bool := e.stage == .stalled

/-- The entry has stage ELIGIBLE. -/
def InFlight.isEligible (e : InFlight) : Bool := e.stage == .eligible

/-- The entry has stage HELD. -/
def InFlight.isHeld (e : InFlight) : Bool := e.stage == .held

/-- The port's ELIGIBLE entry: its request at the arbiter (R162, R171). -/
def eligibleEntry (s : State) (p : Port) : Option InFlight := (s.inFlight p).find? InFlight.isEligible

/-- Change the first entry of port `p` that meets a test. -/
def changeEntry (p : Port) (test : InFlight → Bool) (f : InFlight → InFlight) (s : State) : State :=
  s.setInFlight p (updateFirst test f (s.inFlight p))

/-- The entry refused: DONE with status REFUSED and, for a READ, zero data (R53, R165). -/
def InFlight.refuse (e : InFlight) : InFlight :=
  { e with stage := .done .refused (refusedData e.request.access) }

/-- Each port's STALLED request is presented anew: it becomes the oldest QUEUED request of its port
(R39, R162). -/
def unstall (e : InFlight) : InFlight :=
  if e.isStalled then { e with stage := .queued, cls := none } else e

/-- Both ports' STALLED requests become QUEUED again (R39). -/
def unstallAll (s : State) : State :=
  (s.setInFlight .a ((s.inFlight .a).map unstall)).setInFlight .b ((s.inFlight .b).map unstall)

/-! ### Rings -/

/-- A ring's phase, when it is not FREE. -/
def RingEntry.phase? (e : RingEntry) : Option RingPhase := e.body.map (·.phase)

/-- The ring is TRACKING. -/
def RingEntry.isTracking (e : RingEntry) : Bool :=
  match e.phase? with
  | some (.tracking _ _) => true
  | _ => false

/-- The ring is SEEDING. -/
def RingEntry.isSeeding (e : RingEntry) : Bool :=
  match e.phase? with
  | some (.seeding _) => true
  | _ => false

/-- Replace the phase of a ring's body. -/
def RingBody.withPhase (b : RingBody) (ph : RingPhase) : RingBody := { b with phase := ph }

/-- Replace the body of ring `r`, keeping its count, last violation and pending sets. -/
def State.setBody (s : State) (r : RingId) (b : RingBody) : State :=
  s.setRing r { s.ring r with body := some b }

/-- The ring that is SEEDING, if one is (R13). -/
def seedingRing (s : State) : Option RingId := ringIds.find? fun r => (s.ring r).isSeeding

/-- The port that owns an index word: the producer its head, the consumer its tail (R26). -/
def Descriptor.owner (d : Descriptor) : IndexWord → Port
  | .head => d.producer
  | .tail => other d.producer

/-- The address of an index word. -/
def Descriptor.indexAddr (d : Descriptor) : IndexWord → Word
  | .head => d.headAddr
  | .tail => d.tailAddr

/-! ### Notice kinds, pending sets and queues (05) -/

/-- The six ring kinds (R89). -/
inductive RingKind where
  | fillHigh
  | fillLow
  | violation
  | fault
  | recovered
  | holdExpired
deriving DecidableEq, Repr

/-- The three device kinds (R91). -/
inductive DeviceKind where
  | engineHalt
  | peerReset
  | headRefused
deriving DecidableEq, Repr

/-- A ring kind's bit in a kind set (10.1). -/
def RingKind.bit : RingKind → KindSet
  | .fillHigh => 0b000001#6
  | .fillLow => 0b000010#6
  | .violation => 0b000100#6
  | .fault => 0b001000#6
  | .recovered => 0b010000#6
  | .holdExpired => 0b100000#6

/-- A device kind's bit in a kind set (10.1). -/
def DeviceKind.bit : DeviceKind → KindSet
  | .engineHalt => 0b000001#6
  | .peerReset => 0b000010#6
  | .headRefused => 0b000100#6

/-- The pending set of a source for a port (R93). -/
def pendingSet (s : State) (src : Source) (p : Port) : KindSet :=
  match src with
  | .ring r => (s.ring r).pend.get p
  | .device => s.device.get p

/-- Replace the pending set of a source for a port. -/
def setPendingSet (src : Source) (p : Port) (k : KindSet) (s : State) : State :=
  match src with
  | .ring r => s.setRing r { s.ring r with pend := (s.ring r).pend.set p k }
  | .device => s.setDevice p k

/-- A source leaves a port's notice queue. -/
def dequeue (src : Source) (p : Port) (s : State) : State :=
  s.setQueue p ((s.queues.get p).filter (· != src))

/-- Raise kinds for a source and a port (R93): they join the pending set, and the source is appended to the
back of the port's queue when the set was empty. -/
def raise (src : Source) (p : Port) (k : KindSet) (s : State) : State :=
  let s' := setPendingSet src p (pendingSet s src p ||| k) s
  if pendingSet s src p = 0 then s'.setQueue p (s'.queues.get p ++ [src]) else s'

/-- Raise a ring kind, subject to the ring's notice mask, toward its notify port (R90, R93). -/
def raiseRing (r : RingId) (k : RingKind) (s : State) : State :=
  match (s.ring r).body with
  | none => s
  | some b => if b.desc.mask &&& k.bit = 0 then s else raise (.ring r) b.desc.notify k.bit s

/-- Raise a device kind toward a port (R91). -/
def raiseDevice (p : Port) (k : DeviceKind) (s : State) : State := raise .device p k.bit s

/-- Mark a unit's record in flight taken from ring `r`: on failure it returns nothing (R96, R99). -/
def RecordInFlight.clearedFor (r : RingId) (rec : RecordInFlight) : RecordInFlight :=
  if rec.source = .ring r then { rec with cleared := true } else rec

/-- Change the record in flight of a unit. -/
def NoticeUnit.mapRecord (f : RecordInFlight → RecordInFlight) (u : NoticeUnit) : NoticeUnit :=
  match u.phase with
  | .ready (some rec) c => { u with phase := .ready (some (f rec)) c }
  | _ => u

/-- Change the records in flight of both units. -/
def mapRecords (f : RecordInFlight → RecordInFlight) (s : State) : State :=
  { s with units := ⟨s.units.a.map (NoticeUnit.mapRecord f), s.units.b.map (NoticeUnit.mapRecord f)⟩ }

/-- DEFINE_RING and RELEASE_RING leave both queues without the ring, and a record of it in flight returns
nothing (R99, R96). The ring's pending sets are emptied with its entry. -/
def forgetNotices (r : RingId) (s : State) : State :=
  mapRecords (RecordInFlight.clearedFor r) (dequeue (.ring r) .b (dequeue (.ring r) .a s))

/-- Return the kinds of a failed record to its source (R96): DEVICE kinds to the port the record was taken
for, ring kinds reduced to the ring's mask to its notify port; the source goes to the front. -/
def returnKinds (u : Port) (rec : RecordInFlight) (s : State) : State :=
  let back (p : Port) (k : KindSet) : State :=
    let merged := pendingSet s rec.source p ||| k
    if merged = 0 then s
    else
      let s' := dequeue rec.source p (setPendingSet rec.source p merged s)
      s'.setQueue p (rec.source :: s'.queues.get p)
  match rec.source with
  | .device => back u rec.kinds
  | .ring r =>
    if rec.cleared then s
    else
      match (s.ring r).body with
      | none => s
      | some b => back b.desc.notify (rec.kinds &&& b.desc.mask)

/-- The reset port's notice queue and pending sets are emptied (R100). -/
def clearPortNotices (p : Port) (s : State) : State :=
  ((s.mapRings fun e => { e with pend := e.pend.set p 0 }).setDevice p 0).setQueue p []

/-! ### Violations (1.5) -/

/-- Count a violation on a ring and replace its last-violation record (R22, R23). -/
def countViolation (r : RingId) (k : ViolationKind) (p : Port) (addr : Word) (s : State) : State :=
  let e := s.ring r
  s.setRing r
    { e with
      count := if e.count = 0xFFFF#16 then e.count else e.count + 1
      last := some { kind := k, port := p, address := addr, time := s.time } }

/-- A counted violation other than HOLD_EXPIRED also raises VIOLATION (R89). -/
def chargeViolation (r : RingId) (k : ViolationKind) (p : Port) (addr : Word) (s : State) : State :=
  raiseRing r .violation (countViolation r k p addr s)

/-! ### Hold slots (04) -/

/-- The port whose hold slot holds a write on ring `r`, with the slot (R69). -/
def heldOn (s : State) (r : RingId) : Option (Port × HoldSlot) :=
  match s.holds.a, s.holds.b with
  | some h, some h' => if h.ring = r then some (.a, h) else if h'.ring = r then some (.b, h') else none
  | some h, none => if h.ring = r then some (.a, h) else none
  | none, some h' => if h'.ring = r then some (.b, h') else none
  | none, none => none

/-- Release the write held by port `p`: the slot becomes EMPTY and the write ELIGIBLE (R74, R82, R83). -/
def releaseHeld (p : Port) (s : State) : State :=
  changeEntry p InFlight.isHeld (fun e => { e with stage := .eligible }) (s.setHold p none)

/-- Refuse the write held by port `p`: the slot becomes EMPTY and the write DONE, REFUSED (R77, R81). -/
def refuseHeld (p : Port) (s : State) : State :=
  changeEntry p InFlight.isHeld InFlight.refuse (s.setHold p none)

/-- Release a write held on ring `r`, unchecked and not counted (R58, R82). -/
def releaseHeldOn (r : RingId) (s : State) : State :=
  match heldOn s r with
  | none => s
  | some (p, _) => releaseHeld p s

/-- Re-test the write held on ring `r` after an applied tail write: it is released when every recorded slot
is free (R74). -/
def retestHeld (r : RingId) (s : State) : State :=
  match heldOn s r, (s.ring r).body with
  | some (p, h), some b =>
    match b.phase with
    | .tracking head tail =>
      if h.slots.all fun k => !slotOccupied b.desc.slotCount head tail k then releaseHeld p s else s
    | _ => s
  | _, _ => s

/-! ### Leaving TRACKING -/

/-- The applied mark is removed from an outstanding write of ring `r` (R36). -/
def OutEntry.dropApplied (r : RingId) (o : OutEntry) : OutEntry :=
  match o.origin with
  | .port p n ring applied =>
    if applied && ring == some r then { o with origin := .port p n ring false } else o
  | _ => o

/-- The applied marks of ring `r`'s outstanding writes are removed (R36). -/
def dropAppliedMarks (r : RingId) (s : State) : State :=
  s.setOutstanding (s.outstanding.map (OutEntry.dropApplied r))

/-- A TRACKING ring enters FAULTED (R57): the fault record is written with the current time, the
observations start absent, the applied marks are removed, a held write is released, FAULT is raised. The
reset of the holding port discards the released write with that port's other requests (R58). A ring that
is not TRACKING is left as it is (R56, R59). -/
def faultEntry (r : RingId) (cause : FaultCause) (s : State) : State :=
  match (s.ring r).body with
  | some b =>
    match b.phase with
    | .tracking _ _ =>
      raiseRing r .fault
        (releaseHeldOn r
          (dropAppliedMarks r
            (s.setBody r (b.withPhase (.faulted { cause := cause, time := s.time } none none)))))
    | _ => s
  | none => s

/-! ### Control window and engine accesses (07, 10.3) -/

/-- The window base: the strapped bits 31 to 11 with bits 10 to 0 zero (R120). -/
def windowBase (s : State) : Word := (s.ctlBase ++ 0#11 : BitVec 32)

/-- The index of the slot a command index names, index mod 32 (R121). -/
def commandSlot (i : Index) : Nat := slotIndex i 32

/-- The address of a command slot's first word (R121). -/
def slotAddr (s : State) (i : Index) : Word := windowBase s + BitVec.ofNat 32 (16 + 32 * commandSlot i)

/-- Status codes (10.1). -/
def CommandStatus.code : CommandStatus → Word
  | .ok => 1
  | .badCommand => 2
  | .badRing => 3
  | .wrongState => 4
  | .badField => 5
  | .overlap => 6
  | .seedInvalid => 7
  | .memoryError => 8
  | .peerReset => 9

/-- Halt cause codes (10.3). -/
def HaltCause.code : HaltCause → BitVec 8
  | .fetchError => 1
  | .reportError => 2

/-- The engine status word (R183): state, halt cause and halt slot when HALTED, and IDLE with zero cause and
slot in every other state. -/
def engineStatusWord : EngineState → Word
  | .halted info => (0#11 ++ BitVec.ofNat 5 info.slot.val ++ info.cause.code ++ 1#8 : BitVec 32)
  | _ => 0

/-- The six parameter words in order. -/
def paramList (w : Params) : List Word := [w.w2, w.w3, w.w4, w.w5, w.w6, w.w7]

/-- The initialisation burst: words 0 to 3 with head 0, tail 0, IDLE, halt address 0 (R126). -/
def initBurst (s : State) : EngineRequest :=
  { kind := .initBurst, access := partWrite (windowBase s) [0, 0, 0, 0] }

/-- The fetch of the slot at the internal tail (R127). -/
def fetchRequest (s : State) (tail : Index) : EngineRequest :=
  { kind := .fetch, access := partRead (slotAddr s tail) 8 }

/-- The report burst: words 1 to 7 of the report's slot (R131). -/
def reportBurst (s : State) (r : PendingReport) : EngineRequest :=
  { kind := .reportBurst, access := partWrite (slotAddr s r.index + 4) (r.status.code :: paramList r.words) }

/-- The command tail write: word 1 of the window with index t + 1 (R131). -/
def tailWrite (s : State) (r : PendingReport) : EngineRequest :=
  { kind := .tailWrite, access := partWrite (windowBase s + 4) [indexAsWord (r.index + 1)] }

/-- The halt burst: words 2 and 3 of the window (R133). -/
def haltBurst (s : State) (info : HaltInfo) : EngineRequest :=
  { kind := .haltBurst, access := partWrite (windowBase s + 8) [engineStatusWord (.halted info), info.address] }

/-- The restart status write: word 2 of the window with state IDLE (R134). -/
def statusWrite (s : State) : EngineRequest :=
  { kind := .statusWrite, access := partWrite (windowBase s + 8) [engineStatusWord .idle] }

/-- A seed read of one of a ring's index words (R41). -/
def seedRead (r : RingId) (d : Descriptor) (w : IndexWord) : EngineRequest :=
  { kind := .seedRead r w, access := partRead (d.indexAddr w) 1 }

/-- The engine presents a further access, behind those still waiting for their grant. -/
def presentEngine (q : EngineRequest) (s : State) : State :=
  s.setEngine { s.engine with requests := s.engine.requests ++ [q] }

/-- The engine enters FETCHING and presents the fetch when its head differs from its tail; otherwise it is
IDLE (R124, R127, R131). -/
def fetchOrIdle (s : State) : State :=
  if s.engine.head = s.engine.tail then s.setEngine { s.engine with state := .idle }
  else presentEngine (fetchRequest s s.engine.tail) (s.setEngine { s.engine with state := .fetching })

/-- The engine forms the pending report of its current command, enters REPORTING and presents the report
burst (R129, R130, R131). -/
def report (status : CommandStatus) (words : Params) (s : State) : State :=
  match s.engine.current with
  | none => s
  | some c =>
    let r : PendingReport := { index := c.index, status := status, words := words }
    presentEngine (reportBurst s r)
      (s.setEngine { s.engine with state := .reporting, report := some r, phase := some .burst })

/-- The parameter words of the current command, as fetched (R129). -/
def fetchedParams (s : State) : Params :=
  match s.engine.current with
  | some c => c.words.params
  | none => { w2 := 0, w3 := 0, w4 := 0, w5 := 0, w6 := 0, w7 := 0 }

/-- The timed part an engine WAITING on `w` waits for settles: the report is formed (R130). -/
def settleWait (w : EngineWait) (status : CommandStatus) (words : Params) (s : State) : State :=
  if s.engine.state = .waiting w then report status words s else s

/-- The engine enters HALTED, raises ENGINE_HALT and presents the halt burst (R133). A fetch not yet granted
is withdrawn, the response of a granted one discarded on arrival, and no report phase is left (R132,
R125). -/
def haltEngine (info : HaltInfo) (s : State) : State :=
  let s' := s.setEngine
    { s.engine with
      state := .halted info
      phase := none
      requests := s.engine.requests.filter fun q => q.kind != .fetch }
  let s'' := s'.setOutstanding
    (s'.outstanding.map fun o => if o.origin = .engine .fetch then { o with discarded := true } else o)
  raiseDevice s.mgmt .engineHalt (presentEngine (haltBurst s info) s'')

/-! ### Notice units -/

/-- The apply mark is removed from a waiting notice tail write (R106, R108, R114). -/
def InFlight.dropNoticeMark (e : InFlight) : InFlight :=
  if e.isEligible && e.mark == some .noticeTail then { e with mark := none } else e

/-- The apply marks of a unit's waiting tail writes are removed (R114). -/
def dropNoticeMarks (p : Port) (s : State) : State :=
  s.setInFlight p ((s.inFlight p).map InFlight.dropNoticeMark)

/-- A unit becomes OFF: its fields become absent, its regions are released, its waiting tail writes lose
their mark; queue and pending sets are kept (R107, R108, R119). -/
def unitOff (p : Port) (s : State) : State := dropNoticeMarks p (s.setUnit p none)

/-- The fill of a notice ring (R103). -/
def NoticeUnit.fill (u : NoticeUnit) : Nat := distance u.head u.tail

/-- The requester gives up the job it does for a unit: a write not yet granted is withdrawn, the responses
of granted ones are discarded on arrival, and the requester is free (R107, R119). -/
def abandonJob (p : Port) (s : State) : State :=
  let s' := s.setOutstanding
    (s.outstanding.map fun o =>
      match o.origin with
      | .notice u _ => if u = p then { o with discarded := true } else o
      | _ => o)
  match s.requester.job with
  | some j => if j.unit = p then s'.setJob none else s'
  | none => s'

end Sys2Proof.Machine
end

