-- ==== Sys2Proof/Machine/Regions.lean ====
section
/-! DEFINITION. Regions, reservations and the region map (1.4), slots touched (R1), and the classifier
(R167). -/

namespace Sys2Proof.Machine

/-! ### Regions (R20, R21) -/

/-- A region: a contiguous range of bytes. -/
structure Region where
  base : Nat
  bytes : Nat
deriving DecidableEq, Repr

/-- Which region it is (R20). -/
inductive RegionName where
  | ringData (r : RingId)
  | ringIndex (r : RingId) (w : IndexWord)
  | window
  | noticeData (p : Port)
  | noticeHead (p : Port)
  | noticeTail (p : Port)
deriving DecidableEq, Repr

/-- The byte address lies in the region. -/
def Region.contains (g : Region) (addr : Nat) : Bool := g.base ≤ addr && addr < g.base + g.bytes

/-- Two regions overlap when some byte address lies in both (R21); both are of at least one byte. -/
def Region.overlaps (g h : Region) : Bool := g.base < h.base + h.bytes && h.base < g.base + g.bytes

/-- Some region of one list overlaps some region of the other. -/
def anyOverlap (l m : List Region) : Bool := l.any fun g => m.any fun h => g.overlaps h

/-- A region of one word. -/
def wordRegion (addr : Word) : Region := { base := addr.toNat, bytes := 4 }

/-- A ring's data area: N × S × 4 bytes from its data base (R1). -/
def Descriptor.dataArea (d : Descriptor) : Region :=
  { base := d.dataBase.toNat, bytes := d.slotCount * d.slotSize * 4 }

/-- A ring's three regions (R20). -/
def Descriptor.regions (d : Descriptor) : List Region :=
  [d.dataArea, wordRegion d.headAddr, wordRegion d.tailAddr]

/-- A notice ring's data area: M × 32 bytes from its base (R103). -/
def NoticeUnit.dataArea (u : NoticeUnit) : Region := { base := u.base.toNat, bytes := u.slotCount * 32 }

/-- A notice unit's three regions (R20). -/
def NoticeUnit.regions (u : NoticeUnit) : List Region :=
  [u.dataArea, wordRegion u.headAddr, wordRegion u.tailAddr]

/-- The control window: 1,040 bytes from the window base (R120). -/
def windowRegion (s : State) : Region := { base := (windowBase s).toNat, bytes := 1040 }

/-- The regions a ring reserves: those of every ring that is not FREE (R20). -/
def ringReserved (s : State) (r : RingId) : List Region :=
  match (s.ring r).body with
  | some b => b.desc.regions
  | none => []

/-- The regions a notice unit reserves: those of a unit that is not OFF (R20). -/
def unitReserved (s : State) (p : Port) : List Region :=
  match s.units.get p with
  | some u => u.regions
  | none => []

/-- Region conditions of one geometry by itself (R4, R105): the index words lie outside the data area and
are different words. -/
def apart (data head tail : Region) : Bool :=
  !data.overlaps head && !data.overlaps tail && !head.overlaps tail

/-! ### The region map (R20) -/

/-- A ring's regions are mapped while it is SEEDING, TRACKING or FAULTED. -/
def RingPhase.mapped : RingPhase → Bool
  | .defined => false
  | .seeding _ => true
  | .tracking _ _ => true
  | .faulted _ _ _ => true

/-- The mapped regions of a ring, named. -/
def ringMap (s : State) (r : RingId) : List (RegionName × Region) :=
  match (s.ring r).body with
  | some b =>
    if b.phase.mapped then
      [(.ringData r, b.desc.dataArea), (.ringIndex r .head, wordRegion b.desc.headAddr),
        (.ringIndex r .tail, wordRegion b.desc.tailAddr)]
    else []
  | none => []

/-- The mapped regions of a notice unit, named. -/
def unitMap (s : State) (p : Port) : List (RegionName × Region) :=
  match s.units.get p with
  | some u =>
    [(.noticeData p, u.dataArea), (.noticeHead p, wordRegion u.headAddr), (.noticeTail p, wordRegion u.tailAddr)]
  | none => []

/-- The region map. -/
def regionMap (s : State) : List (RegionName × Region) :=
  ringIds.flatMap (ringMap s) ++ (if s.windowMapped then [(.window, windowRegion s)] else []) ++
    (unitMap s .a ++ unitMap s .b)

/-- The mapped region a byte address lies in; none is plain memory. -/
def regionAt (s : State) (addr : Nat) : Option RegionName :=
  ((regionMap s).find? fun x => x.2.contains addr).map (·.1)

/-! ### Slots touched (R1) -/

/-- The slot a byte address inside the data area belongs to (R1). -/
def Descriptor.slotOf (d : Descriptor) (addr : Nat) : Nat := (addr - d.dataBase.toNat) / (d.slotSize * 4)

/-- The slots an access in the data area touches, each once, lowest address first (R1, R49). -/
def slotsTouched (d : Descriptor) (x : Access) : List Nat := distinct ((coveredWords x).map d.slotOf)

/-! ### The classifier (R167) -/

/-- The access covers word `k` of the control window. -/
def coversWindowWord (s : State) (x : Access) (k : Nat) : Bool :=
  (coveredWords x).any fun a => a == (windowBase s).toNat + 4 * k

/-- The class of an access all of whose words lie in one region, or all in plain memory. -/
def classOf (s : State) (x : Access) : Option RegionName → AccessClass
  | none => .plain
  | some (.ringData r) => .ringData r
  | some (.ringIndex r .head) => .headWord r
  | some (.ringIndex r .tail) => .tailWord r
  | some .window =>
    if coversWindowWord s x 0 || coversWindowWord s x 1 || coversWindowWord s x 2 || coversWindowWord s x 3 then
      .controlHeader
    else .commandSlot
  | some (.noticeData p) => .noticeData p
  | some (.noticeHead p) => .noticeHead p
  | some (.noticeTail p) => .noticeTail p

/-- The class of an access against the region map as it stands (R167). -/
def classify (s : State) (x : Access) : AccessClass :=
  match (coveredWords x).map (regionAt s) with
  | [] => .plain
  | n :: rest => if rest.all (· == n) then classOf s x n else .crossing

/-- The ring a region belongs to. -/
def RegionName.ring? : RegionName → Option RingId
  | .ringData r => some r
  | .ringIndex r _ => some r
  | _ => none

/-- The region is the control window or a notice region: a protected region of R169. -/
def RegionName.isProtected : RegionName → Bool
  | .window => true
  | .noticeData _ => true
  | .noticeHead _ => true
  | .noticeTail _ => true
  | _ => false

/-- The rings whose mapped regions an access touches, in the order of its words. -/
def ringsTouched (s : State) (x : Access) : List RingId :=
  (coveredWords x).filterMap fun a => (regionAt s a).bind RegionName.ring?

/-- The access touches the control window or a notice region. -/
def touchesProtected (s : State) (x : Access) : Bool :=
  (coveredWords x).any fun a => (regionAt s a).any RegionName.isProtected

/-- The ring a class names. -/
def AccessClass.ring? : AccessClass → Option RingId
  | .ringData r => some r
  | .headWord r => some r
  | .tailWord r => some r
  | _ => none

/-- The request of an entry touches a ring's regions: some covered word lies in them, or its class names the
ring (R40: both the address ranges and the classes count). -/
def touchesRing (r : RingId) (d : Descriptor) (e : InFlight) : Bool :=
  e.cls.bind AccessClass.ring? == some r ||
    (coveredWords e.request.access).any fun a => d.regions.any fun g => g.contains a

/-! ### Draining (R40, R41) -/

/-- Some port has an ELIGIBLE request touching the ring's regions. -/
def drainBlocked (s : State) (r : RingId) (d : Descriptor) : Bool :=
  (eligibleEntry s .a).any (touchesRing r d) || (eligibleEntry s .b).any (touchesRing r d)

/-- The draining test of ring `r`: in step DRAINING with nothing to drain, the step becomes READING and the
head seed read is presented (R40, R41). -/
def drainTest (r : RingId) (s : State) : State :=
  match (s.ring r).body with
  | some b =>
    match b.phase with
    | .seeding rec =>
      if rec.step = .draining ∧ drainBlocked s r b.desc = false then
        presentEngine (seedRead r b.desc .head)
          (s.setBody r (b.withPhase (.seeding { rec with step := .reading })))
      else s
    | _ => s
  | none => s

/-- The draining test of the SEEDING ring, if there is one. -/
def drainTestSeeding (s : State) : State :=
  match seedingRing s with
  | some r => drainTest r s
  | none => s

end Sys2Proof.Machine
end

