-- ==== Sys2Proof/Machine/Operands.lean ====
section
/-! DEFINITION. How the engine reads a fetched slot (R184, R185): code, operand, and every parameter word
of every command, with the field conditions whose failure is BAD_FIELD. -/

namespace Sys2Proof.Machine

/-- The 13 commands of the command ring (10.1). -/
inductive CommandCode where
  | defineRing
  | releaseRing
  | armRing
  | disarmRing
  | clearFault
  | setMarks
  | setGuard
  | setNotify
  | queryRing
  | resetCounts
  | setupNotice
  | noticeOff
  | resetTable
deriving DecidableEq, Repr

/-- The command a code byte names; 00H and 0EH to FFH name none (R184). -/
def commandOfCode (c : BitVec 8) : Option CommandCode :=
  match c.toNat with
  | 0x01 => some .defineRing
  | 0x02 => some .releaseRing
  | 0x03 => some .armRing
  | 0x04 => some .disarmRing
  | 0x05 => some .clearFault
  | 0x06 => some .setMarks
  | 0x07 => some .setGuard
  | 0x08 => some .setNotify
  | 0x09 => some .queryRing
  | 0x0A => some .resetCounts
  | 0x0B => some .setupNotice
  | 0x0C => some .noticeOff
  | 0x0D => some .resetTable
  | _ => none

/-- Byte `i` of a word: bits 8i + 7 to 8i. For bytes 0 and 1 of word 0 the manual gives these bits itself (R184). For
DEFINE_RING's words 5 and 6 it names byte 0 to byte 3 without their bits (10.4), and this order is the model's
choice (PRESUMED, unsafe: log entry 26). -/
def byteOf (w : Word) (i : Nat) : BitVec 8 := w.extractLsb' (8 * i) 8

/-- The command code of a fetched slot: bits 7 to 0 of word 0 (R184). -/
def codeOf (w : SlotWords) : Option CommandCode := commandOfCode (byteOf w.w0 0)

/-- The operand of a fetched slot: bits 15 to 8 of word 0 (R184). -/
def operandOf (w : SlotWords) : BitVec 8 := byteOf w.w0 1

/-- A ring operand: 0 to 23 (R138). -/
def ringOperand (w : SlotWords) : Option RingId :=
  if h : (operandOf w).toNat < 24 then some ⟨(operandOf w).toNat, h⟩ else none

/-- A port field: 0 is A, 1 is B, any other value undefined (R181). -/
def portOfField (n : Nat) : Option Port :=
  match n with
  | 0 => some .a
  | 1 => some .b
  | _ => none

/-- A port operand (R138). -/
def portOperand (w : SlotWords) : Option Port := portOfField (operandOf w).toNat

/-- Guard mode coding: 0 OBSERVE, 1 REFUSE, 2 HOLD (10.1). -/
def guardOfField (n : Nat) : Option GuardMode :=
  match n with
  | 0 => some .observe
  | 1 => some .refuse
  | 2 => some .hold
  | _ => none

/-- Recovery coding: 0 MANUAL, 1 QUIESCE (10.1). -/
def recoveryOfField (n : Nat) : Option Recovery :=
  match n with
  | 0 => some .manual
  | 1 => some .quiesce
  | _ => none

/-- A flag coded 0 or 1: writeback, and the mark flags (10.1, R148). -/
def flagOfField (n : Nat) : Option Bool :=
  match n with
  | 0 => some false
  | 1 => some true
  | _ => none

/-- A notice mask: a kind set with no bit above bit 5 (R185). -/
def maskOfField (n : Nat) : Option KindSet := if n < 64 then some (BitVec.ofNat 6 n) else none

/-- A hold limit: 1 to 65,535 (R140, R149). -/
def limitOfField (n : Nat) : Option Nat := if 1 ≤ n ∧ n ≤ 65535 then some n else none

/-- A value within a range. -/
def inRange (lo hi n : Nat) : Option Nat := if lo ≤ n ∧ n ≤ hi then some n else none

/-- An aligned word address (R4, R105). -/
def alignedAddr (align : Nat) (w : Word) : Option Word := if w.toNat % align = 0 then some w else none

/-- An area of `bytes` bytes that lies within the address space (R4, R105). -/
def withinSpace (base : Word) (bytes : Nat) : Option Unit :=
  if base.toNat + bytes ≤ 2 ^ 32 then some () else none

/-- The descriptor DEFINE_RING's parameters give, when every field condition of R4 holds (R140). -/
def parseDescriptor (w : Params) : Option Descriptor := do
  let sizeCode ← inRange 0 6 (byteOf w.w5 0).toNat
  let countExp ← inRange 1 15 (byteOf w.w5 1).toNat
  let dataBase ← alignedAddr (2 ^ sizeCode * 4) w.w2
  let _ ← withinSpace dataBase (2 ^ countExp * 2 ^ sizeCode * 4)
  let headAddr ← alignedAddr 4 w.w3
  let tailAddr ← alignedAddr 4 w.w4
  let producer ← portOfField (byteOf w.w5 2).toNat
  let notify ← portOfField (byteOf w.w5 3).toNat
  let guardMode ← guardOfField (byteOf w.w6 0).toNat
  let recovery ← recoveryOfField (byteOf w.w6 1).toNat
  let writeback ← flagOfField (byteOf w.w6 2).toNat
  let mask ← maskOfField (byteOf w.w6 3).toNat
  let holdLimit ← limitOfField w.w7.toNat
  pure
    { dataBase := dataBase, slotSize := 2 ^ sizeCode, slotCount := 2 ^ countExp, headAddr := headAddr,
      tailAddr := tailAddr, producer := producer, guardMode := guardMode, holdLimit := holdLimit,
      recovery := recovery, writeback := writeback, notify := notify, mask := mask }

/-- The region conditions of R4 for a new descriptor of ring `r` hold (R141): its regions lie apart from one
another, from the control window, from every other ring that is not FREE, and from every notice unit that
is not OFF. The ring's own earlier regions do not count (R16). -/
def descriptorApart (s : State) (r : RingId) (d : Descriptor) : Bool :=
  apart d.dataArea (wordRegion d.headAddr) (wordRegion d.tailAddr) &&
    !anyOverlap d.regions [windowRegion s] &&
    ringIds.all (fun r' => r' == r || !anyOverlap d.regions (ringReserved s r')) &&
    !anyOverlap d.regions (unitReserved s .a) && !anyOverlap d.regions (unitReserved s .b)

/-- One mark of SET_MARKS: absent when its flag is 0, whatever its value; present when the flag is 1 and the
value within its range (R148, R185). -/
def parseMark (flag value : Word) (lo hi : Nat) : Option (Option Nat) := do
  let present ← flagOfField flag.toNat
  if present then (inRange lo hi value.toNat).map some else pure none

/-- SET_MARKS' two marks, high first, when their field conditions hold for slot count N (R148). -/
def parseMarks (n : Nat) (w : Params) : Option (Option Nat × Option Nat) := do
  let high ← parseMark w.w2 w.w3 1 n
  let low ← parseMark w.w4 w.w5 0 (n - 1)
  match high, low with
  | some h, some l => if l < h then pure (high, low) else none
  | _, _ => pure (high, low)

/-- SET_GUARD's guard mode, hold limit and recovery (R149). -/
def parseGuard (w : Params) : Option (GuardMode × Nat × Recovery) := do
  let g ← guardOfField w.w2.toNat
  let l ← limitOfField w.w3.toNat
  let r ← recoveryOfField w.w4.toNat
  pure (g, l, r)

/-- SET_NOTIFY's notify port and notice mask (R151). -/
def parseNotify (w : Params) : Option (Port × KindSet) := do
  let p ← portOfField w.w2.toNat
  let m ← maskOfField w.w3.toNat
  pure (p, m)

/-- The view of QUERY_RING (R153). -/
inductive QueryView where
  | status
  | fault
deriving DecidableEq, Repr

/-- QUERY_RING's view: 0 STATUS, 1 FAULT (R153). -/
def parseView (w : Params) : Option QueryView :=
  match w.w2.toNat with
  | 0 => some .status
  | 1 => some .fault
  | _ => none

/-- The unit SETUP_NOTICE's parameters give, in step SETTING_UP with head, tail and sequence number 0, when
every field condition of R105 holds (R156, R106). -/
def parseUnit (w : Params) : Option NoticeUnit := do
  let base ← alignedAddr 32 w.w2
  let exp ← inRange 2 10 w.w3.toNat
  let _ ← withinSpace base (2 ^ exp * 32)
  let headAddr ← alignedAddr 4 w.w4
  let tailAddr ← alignedAddr 4 w.w5
  pure
    { base := base, slotCount := 2 ^ exp, headAddr := headAddr, tailAddr := tailAddr, head := 0, tail := 0,
      seq := 0, phase := .settingUp }

/-- The region conditions of R105 for a new geometry of port `p`'s unit hold (R156). The unit's own earlier
regions do not count. -/
def unitApart (s : State) (p : Port) (u : NoticeUnit) : Bool :=
  apart u.dataArea (wordRegion u.headAddr) (wordRegion u.tailAddr) &&
    !anyOverlap u.regions [windowRegion s] &&
    ringIds.all (fun r => !anyOverlap u.regions (ringReserved s r)) &&
    !anyOverlap u.regions (unitReserved s (other p))

end Sys2Proof.Machine
end

