-- ==== Sys2Proof/Machine/Flags.lean ====
section
/-! DEFINITION. The words in which the part shows its state: codes (10.1), the QUERY_RING and NOTICE_OFF
results (R186), the notice records (R187), and the interrupt lines (R118). Every word is written as its
fields from bit 31 down. -/

namespace Sys2Proof.Machine

/-! ### Codes (10.1) -/

/-- Violation codes. -/
def ViolationKind.code : ViolationKind → BitVec 4
  | .overwrite => 1
  | .staleRead => 2
  | .wrongSide => 3
  | .headJump => 4
  | .tailJump => 5
  | .indexForm => 6
  | .wrongOwner => 7
  | .crossing => 8
  | .holdConflict => 9
  | .holdExpired => 10

/-- Fault kind codes; 0 is no fault record. -/
def FaultCause.code : FaultCause → BitVec 2
  | .index _ _ _ _ => 1
  | .peerReset => 2
  | .memoryError _ _ => 3

/-- Ring state codes. -/
def RingEntry.stateCode (e : RingEntry) : BitVec 3 :=
  match e.phase? with
  | none => 0
  | some .defined => 1
  | some (.seeding _) => 2
  | some (.tracking _ _) => 3
  | some (.faulted _ _ _) => 4

/-- Guard mode codes. -/
def GuardMode.code : GuardMode → BitVec 2
  | .observe => 0
  | .refuse => 1
  | .hold => 2

/-- Recovery codes. -/
def Recovery.code : Recovery → BitVec 1
  | .manual => 0
  | .quiesce => 1

/-- A presence flag or other flag as one bit (R181). -/
def flagBit (b : Bool) : BitVec 1 := if b then 1 else 0

/-! ### What is sampled of a ring -/

/-- The tracking record of an entry, when present (R5). -/
def RingEntry.tracking? (e : RingEntry) : Option (Index × Index) :=
  match e.phase? with
  | some (.tracking h t) => some (h, t)
  | _ => none

/-- The fault record of an entry, when present (R7). -/
def RingEntry.fault? (e : RingEntry) : Option FaultRecord :=
  match e.phase? with
  | some (.faulted f _ _) => some f
  | _ => none

/-- The head as written: zero when absent. -/
def headField (e : RingEntry) : BitVec 16 := (e.tracking?.map (·.1)).getD 0

/-- The tail as written: zero when absent. -/
def tailField (e : RingEntry) : BitVec 16 := (e.tracking?.map (·.2)).getD 0

/-- The fill as written: zero when absent (R2). -/
def fillField (e : RingEntry) : BitVec 16 := (e.tracking?.map fun x => BitVec.ofNat 16 (distance x.1 x.2)).getD 0

/-- The last-violation kind as written. -/
def lastKindField (e : RingEntry) : BitVec 4 := (e.last.map fun v => v.kind.code).getD 0

/-- The last-violation port as written. -/
def lastPortField (e : RingEntry) : BitVec 1 := (e.last.map fun v => portBit v.port).getD 0

/-- The last-violation address as written. -/
def lastAddressField (e : RingEntry) : Word := (e.last.map (·.address)).getD 0

/-- The fault kind code as written: 0 when the fault record is absent. -/
def faultKindField (e : RingEntry) : BitVec 2 := (e.fault?.map fun f => f.cause.code).getD 0

/-- The held flag: a port's hold slot is HOLDING with that ring (R85). -/
def heldField (s : State) (r : RingId) : BitVec 1 := flagBit (heldOn s r).isSome

/-- The holding port, zero when no write is held on the ring (R85). -/
def holdingPortField (s : State) (r : RingId) : BitVec 1 := ((heldOn s r).map fun x => portBit x.1).getD 0

/-- The elapsed time of a hold, (time base − start time) mod 2^32 (R68, R85), in its 16-bit field. -/
def elapsedField (s : State) (r : RingId) : BitVec 16 :=
  ((heldOn s r).map fun x => (s.time - x.2.start).setWidth 16).getD 0

/-! ### QUERY_RING results (R154, R155, R186) -/

/-- The descriptor's guard mode, recovery, writeback and notify port; zero for a FREE ring. -/
def guardField (e : RingEntry) : BitVec 2 := (e.body.map fun b => b.desc.guardMode.code).getD 0

/-- See `guardField`. -/
def recoveryField (e : RingEntry) : BitVec 1 := (e.body.map fun b => b.desc.recovery.code).getD 0

/-- See `guardField`. -/
def writebackField (e : RingEntry) : BitVec 1 := (e.body.map fun b => flagBit b.desc.writeback).getD 0

/-- See `guardField`. -/
def notifyField (e : RingEntry) : BitVec 1 := (e.body.map fun b => portBit b.desc.notify).getD 0

/-- The high mark, when present (R86). -/
def highMark? (e : RingEntry) : Option Nat := e.body.bind (·.highMark)

/-- The low mark, when present (R86). -/
def lowMark? (e : RingEntry) : Option Nat := e.body.bind (·.lowMark)

/-- The ring's pending set for its notify port; empty for a FREE ring (R102, R154). -/
def pendingField (e : RingEntry) : BitVec 6 := (e.body.map fun b => e.pend.get b.desc.notify).getD 0

/-- The STATUS view (R154, R186). -/
def statusView (s : State) (r : RingId) : Params :=
  let e := s.ring r
  { w2 := (0#4 ++ lastKindField e ++ 0#2 ++ pendingField e ++ 0#1 ++ lastPortField e ++ flagBit e.last.isSome ++
        holdingPortField s r ++ heldField s r ++ flagBit (lowMark? e).isSome ++ flagBit (highMark? e).isSome ++
        flagBit e.tracking?.isSome ++ notifyField e ++ writebackField e ++ recoveryField e ++ guardField e ++
        e.stateCode : BitVec 32)
    w3 := (tailField e ++ headField e : BitVec 32)
    w4 := (e.count ++ fillField e : BitVec 32)
    w5 := (BitVec.ofNat 16 ((lowMark? e).getD 0) ++ BitVec.ofNat 16 ((highMark? e).getD 0) : BitVec 32)
    w6 := (0#16 ++ elapsedField s r : BitVec 32)
    w7 := lastAddressField e }

/-- The fault port, present for INDEX and MEMORY_ERROR (R7). -/
def FaultCause.portField : FaultCause → BitVec 1
  | .index _ p _ _ => portBit p
  | .peerReset => 0
  | .memoryError p _ => portBit p

/-- The fault violation kind, present for INDEX (R7). -/
def FaultCause.kindField : FaultCause → BitVec 4
  | .index k _ _ _ => k.code
  | .peerReset => 0
  | .memoryError _ _ => 0

/-- The fault address, present for INDEX and MEMORY_ERROR (R7). -/
def FaultCause.addressField : FaultCause → Word
  | .index _ _ x _ => x
  | .peerReset => 0
  | .memoryError _ x => x

/-- The fault's written value, present for INDEX (R7). -/
def FaultCause.writtenField : FaultCause → Word
  | .index _ _ _ w => w
  | .peerReset => 0
  | .memoryError _ _ => 0

/-- The FAULT view (R155, R186). -/
def faultView (s : State) (r : RingId) : Params :=
  let e := s.ring r
  { w2 := (e.count ++ flagBit e.last.isSome ++ lastPortField e ++ lastKindField e ++
        (e.fault?.map fun f => f.cause.kindField).getD 0 ++ (e.fault?.map fun f => f.cause.portField).getD 0 ++
        faultKindField e ++ e.stateCode : BitVec 32)
    w3 := (e.fault?.map fun f => f.cause.addressField).getD 0
    w4 := (e.fault?.map fun f => f.cause.writtenField).getD 0
    w5 := (e.fault?.map (·.time)).getD 0
    w6 := lastAddressField e
    w7 := (e.last.map (·.time)).getD 0 }

/-- The NOTICE_OFF result (R186): failing-write flag and which write failed; the failing address. -/
def noticeOffResult (f : Option FailingWrite) : Params :=
  { w2 := (0#30 ++ flagBit (f.any fun x => x.which == .head) ++ flagBit f.isSome : BitVec 32)
    w3 := (f.map (·.address)).getD 0
    w4 := 0
    w5 := 0
    w6 := 0
    w7 := 0 }

/-! ### Notice records (R95, R187) -/

/-- A source's byte in a record: the ring id, or FFH for DEVICE. -/
def sourceByte : Source → BitVec 8
  | .ring r => BitVec.ofNat 8 r.val
  | .device => 0xFF

/-- Word 0 of a record: sequence number, kinds, source. -/
def recordHeader (src : Source) (kinds : KindSet) (seq : Index) : Word :=
  (seq ++ 0#2 ++ kinds ++ sourceByte src : BitVec 32)

/-- The record of a ring source (R187). -/
def ringRecord (s : State) (r : RingId) (kinds : KindSet) (seq : Index) : List Word :=
  let e := s.ring r
  [ recordHeader (.ring r) kinds seq,
    (tailField e ++ headField e : BitVec 32),
    (e.count ++ fillField e : BitVec 32),
    (0#20 ++ lastKindField e ++ lastPortField e ++ flagBit e.last.isSome ++ faultKindField e ++
      flagBit e.tracking?.isSome ++ e.stateCode : BitVec 32),
    lastAddressField e,
    s.time,
    (0#30 ++ holdingPortField s r ++ heldField s r : BitVec 32),
    0 ]

/-- The record of the DEVICE source (R187): word 6 is the engine status (R133, R183). -/
def deviceRecord (s : State) (kinds : KindSet) (seq : Index) : List Word :=
  [recordHeader .device kinds seq, 0, 0, 0, 0, s.time, engineStatusWord s.engine.state, 0]

/-- The record of a source, sampled from the state as it stands (R95). -/
def recordWords (s : State) (src : Source) (kinds : KindSet) (seq : Index) : List Word :=
  match src with
  | .ring r => ringRecord s r kinds seq
  | .device => deviceRecord s kinds seq

/-! ### Interrupt lines (R118) -/

/-- INT_A, INT_B: asserted while the port's unit is RUNNING with fill greater than 0, or HALTED. -/
def intLine (s : State) (p : Port) : Bool :=
  match s.units.get p with
  | none => false
  | some u =>
    match u.phase with
    | .settingUp => decide (0 < u.fill)
    | .ready _ _ => decide (0 < u.fill)
    | .halted _ => true

end Sys2Proof.Machine
end

