-- ==== Sys2Proof/Machine/Commands.lean ====
section
/-! DEFINITION. The engine commands (08): the checks in their order (R137), the effect, and the report (R129,
R130). Each executes the current command of an EXECUTING engine whose code is its own (log entry 17). -/

namespace Sys2Proof.Machine

/-! ### Executing (R129, R137) -/

/-- The current command of an EXECUTING engine. -/
def executing (s : State) : Option CurrentCommand :=
  match s.engine.state with
  | .executing => s.engine.current
  | _ => none

/-- A command that finishes at once with a status and its parameter words as fetched (R129). -/
def finish (status : CommandStatus) (s : State) : State := report status (fetchedParams s) s

/-- Execute a command of the given code: when the engine is EXECUTING a command of that code, `act` on its
words; otherwise no such execution happens. -/
def performing (k : CommandCode) (act : SlotWords → State → State) (s : State) : State :=
  match executing s with
  | some c => if codeOf c.words = some k then act c.words s else s
  | none => s

/-- The first three checks of a ring command (R137, R138): the operand names a ring, and the ring's state is
one the command is allowed in. -/
def ringCommand (allowed : RingEntry → Bool) (act : RingId → State → State) (w : SlotWords) (s : State) : State :=
  match ringOperand w with
  | none => finish .badRing s
  | some r => if allowed (s.ring r) then act r s else finish .wrongState s

/-- The body of the ring a ring command names, for the commands not allowed in FREE. -/
def onBody (act : RingBody → State → State) (r : RingId) (s : State) : State :=
  match (s.ring r).body with
  | some b => act b s
  | none => finish .wrongState s

/-- Allowed in FREE and DEFINED (R140). -/
def allowedDefine (e : RingEntry) : Bool :=
  match e.phase? with
  | none => true
  | some .defined => true
  | some _ => false

/-- Allowed in DEFINED alone (R143, R144). -/
def allowedDefined (e : RingEntry) : Bool :=
  match e.phase? with
  | some .defined => true
  | _ => false

/-- Allowed in TRACKING and FAULTED (R146). -/
def allowedDisarm (e : RingEntry) : Bool :=
  match e.phase? with
  | some (.tracking _ _) => true
  | some (.faulted _ _ _) => true
  | _ => false

/-- Allowed in FAULTED alone (R147). -/
def allowedFaulted (e : RingEntry) : Bool :=
  match e.phase? with
  | some (.faulted _ _ _) => true
  | _ => false

/-- Allowed in DEFINED, TRACKING and FAULTED (R148, R149, R151, R152). -/
def allowedChange (e : RingEntry) : Bool :=
  match e.phase? with
  | some .defined => true
  | some (.tracking _ _) => true
  | some (.faulted _ _ _) => true
  | _ => false

/-! ### BAD_COMMAND -/

/-- BAD_COMMAND: an undefined code is reported without effect (R137, R184). -/
def execBadCommand (s : State) : Host.Outcome State Fault Refusal :=
  .next
    (match executing s with
    | some c => if codeOf c.words = none then finish .badCommand s else s
    | none => s)

/-! ### Defining and releasing (R140 to R143) -/

/-- The entry started afresh (R16, R142). -/
def startAfresh (r : RingId) (d : Descriptor) (s : State) : State :=
  (forgetNotices r s).setRing r
    { RingEntry.free with body := some { desc := d, highMark := none, lowMark := none, phase := .defined } }

/-- DEFINE_RING. -/
def execDefineRing (s : State) : Host.Outcome State Fault Refusal :=
  .next
    (performing .defineRing
      (fun w =>
        ringCommand allowedDefine
          (fun r t =>
            match parseDescriptor w.params with
            | none => finish .badField t
            | some d => if descriptorApart t r d then finish .ok (startAfresh r d t) else finish .overlap t)
          w)
      s)

/-- RELEASE_RING: the entry is cleared (R17, R143). -/
def execReleaseRing (s : State) : Host.Outcome State Fault Refusal :=
  .next
    (performing .releaseRing
      (ringCommand allowedDefined fun r t => finish .ok ((forgetNotices r t).setRing r RingEntry.free)) s)

/-! ### Arming, disarming and clearing (R144 to R147) -/

/-- Seeding begins (R37): the ring enters SEEDING, the engine WAITING (R129), and the drain is tested (R40). -/
def beginSeeding (r : RingId) (b : RingBody) (purpose : SeedPurpose) (s : State) : State :=
  let rec' : SeedingRecord :=
    { purpose := purpose, step := .draining, peerReset := s.portReset.a || s.portReset.b, headSeed := none,
      tailSeed := none }
  drainTest r
    ((s.setBody r (b.withPhase (.seeding rec'))).setEngine { s.engine with state := .waiting (.seeding r) })

/-- ARM_RING (R144). -/
def execArmRing (s : State) : Host.Outcome State Fault Refusal :=
  .next (performing .armRing (ringCommand allowedDefined fun r => onBody (fun b => beginSeeding r b .arm) r) s)

/-- DISARM_RING (R146): the ring returns to DEFINED, a held write is released unchecked (R82), the applied
marks are removed (R36). -/
def execDisarmRing (s : State) : Host.Outcome State Fault Refusal :=
  .next
    (performing .disarmRing
      (ringCommand allowedDisarm fun r =>
        onBody
          (fun b t => finish .ok (releaseHeldOn r (dropAppliedMarks r (t.setBody r (b.withPhase .defined))))) r)
      s)

/-- CLEAR_FAULT (R147): the fault record is set aside, the observations are discarded, seeding begins. -/
def execClearFault (s : State) : Host.Outcome State Fault Refusal :=
  .next
    (performing .clearFault
      (ringCommand allowedFaulted fun r =>
        onBody
          (fun b t =>
            match b.phase with
            | .faulted f _ _ => beginSeeding r b (.clearFault f) t
            | _ => t)
          r)
      s)

/-! ### Changing a ring (R148 to R152) -/

/-- SET_MARKS (R148). -/
def execSetMarks (s : State) : Host.Outcome State Fault Refusal :=
  .next
    (performing .setMarks
      (fun w =>
        ringCommand allowedChange
          (fun r =>
            onBody
              (fun b t =>
                match parseMarks b.desc.slotCount w.params with
                | none => finish .badField t
                | some (high, low) => finish .ok (t.setBody r { b with highMark := high, lowMark := low }))
              r)
          w)
      s)

/-- The phase after SET_GUARD: in FAULTED the observations are kept only from QUIESCE to QUIESCE (R65). -/
def phaseAfterGuard (before after : Recovery) : RingPhase → RingPhase
  | .faulted f oh ot =>
    if before = .quiesce ∧ after = .quiesce then .faulted f oh ot else .faulted f none none
  | .defined => .defined
  | .seeding rec => .seeding rec
  | .tracking h t => .tracking h t

/-- The write held on a ring settled by the new guard mode (R150, R79, R80, R81). -/
def settleHeldByGuard (r : RingId) (g : GuardMode) (s : State) : State :=
  match heldOn s r with
  | none => s
  | some (p, h) =>
    match g with
    | .hold => s
    | .observe => chargeViolation r .overwrite p h.first (releaseHeld p s)
    | .refuse => chargeViolation r .overwrite p h.first (refuseHeld p s)

/-- SET_GUARD (R149, R150). -/
def execSetGuard (s : State) : Host.Outcome State Fault Refusal :=
  .next
    (performing .setGuard
      (fun w =>
        ringCommand allowedChange
          (fun r =>
            onBody
              (fun b t =>
                match parseGuard w.params with
                | none => finish .badField t
                | some (g, limit, rcv) =>
                  finish .ok
                    (settleHeldByGuard r g
                      (t.setBody r
                        { b with
                          desc := { b.desc with guardMode := g, holdLimit := limit, recovery := rcv }
                          phase := phaseAfterGuard b.desc.recovery rcv b.phase })))
              r)
          w)
      s)

/-- The ring's pending set pruned to the new mask (R97) and moved to the new port (R98). -/
def moveNotify (r : RingId) (b : RingBody) (p : Port) (m : KindSet) (s : State) : State :=
  let kept := pendingSet s (.ring r) b.desc.notify &&& m
  let changed := s.setBody r { b with desc := { b.desc with notify := p, mask := m } }
  if kept = 0 then
    dequeue (.ring r) b.desc.notify (setPendingSet (.ring r) b.desc.notify 0 changed)
  else if p = b.desc.notify then setPendingSet (.ring r) p kept changed
  else
    raise (.ring r) p kept
      (dequeue (.ring r) b.desc.notify (setPendingSet (.ring r) b.desc.notify 0 changed))

/-- SET_NOTIFY (R151). -/
def execSetNotify (s : State) : Host.Outcome State Fault Refusal :=
  .next
    (performing .setNotify
      (fun w =>
        ringCommand allowedChange
          (fun r =>
            onBody
              (fun b t =>
                match parseNotify w.params with
                | none => finish .badField t
                | some (p, m) => finish .ok (moveNotify r b p m t))
              r)
          w)
      s)

/-- RESET_COUNTS (R152). -/
def execResetCounts (s : State) : Host.Outcome State Fault Refusal :=
  .next
    (performing .resetCounts
      (ringCommand allowedChange fun r t => finish .ok (t.setRing r { t.ring r with count := 0, last := none })) s)

/-! ### Reading a ring (R153 to R155) -/

/-- QUERY_RING: the view asked for, as the report's result words. -/
def execQueryRing (s : State) : Host.Outcome State Fault Refusal :=
  .next
    (performing .queryRing
      (fun w =>
        ringCommand (fun _ => true)
          (fun r t =>
            match parseView w.params with
            | none => finish .badField t
            | some .status => report .ok (statusView t r) t
            | some .fault => report .ok (faultView t r) t)
          w)
      s)

/-! ### Notice unit commands (R156 to R158) -/

/-- The first three checks of a unit command (R137, R138). -/
def unitCommand (allowed : Option NoticeUnit → Bool) (act : Port → State → State) (w : SlotWords) (s : State) :
    State :=
  match portOperand w with
  | none => finish .badRing s
  | some p => if allowed (s.units.get p) then act p s else finish .wrongState s

/-- Allowed for a unit that is OFF or HALTED (R156). -/
def allowedSetup (u : Option NoticeUnit) : Bool :=
  match u with
  | none => true
  | some u =>
    match u.phase with
    | .halted _ => true
    | _ => false

/-- Allowed for a unit that is RUNNING in step READY, or HALTED (R158, R108). A unit in step SETTING_UP cannot
meet the command (R104; log entry 16). -/
def allowedOff (u : Option NoticeUnit) : Bool :=
  match u with
  | none => false
  | some u =>
    match u.phase with
    | .settingUp => false
    | _ => true

/-- The setup begins (R106): the unit takes its geometry in step SETTING_UP, its waiting tail writes lose their
mark, the engine enters WAITING (R129). -/
def beginSetup (p : Port) (u : NoticeUnit) (s : State) : State :=
  let s' := dropNoticeMarks p (s.setUnit p (some u))
  s'.setEngine { s'.engine with state := .waiting (.setup p) }

/-- SETUP_NOTICE. -/
def execSetupNotice (s : State) : Host.Outcome State Fault Refusal :=
  .next
    (performing .setupNotice
      (fun w =>
        unitCommand allowedSetup
          (fun p t =>
            match parseUnit w.params with
            | none => finish .badField t
            | some u => if unitApart t p u then beginSetup p u t else finish .overlap t)
          w)
      s)

/-- NOTICE_OFF's effect on a unit (R108, R158). -/
def closeUnit (p : Port) (s : State) : State :=
  match s.units.get p with
  | none => s
  | some u =>
    match u.phase with
    | .halted f => report .ok (noticeOffResult (some f)) (unitOff p s)
    | .ready none _ => report .ok (noticeOffResult none) (unitOff p s)
    | .ready (some rec) _ =>
      let s' := s.setUnit p (some { u with phase := .ready (some rec) true })
      s'.setEngine { s'.engine with state := .waiting (.noticeOff p) }
    | .settingUp => s

/-- NOTICE_OFF. -/
def execNoticeOff (s : State) : Host.Outcome State Fault Refusal :=
  .next (performing .noticeOff (unitCommand allowedOff closeUnit) s)

/-! ### Clearing the table (R159) -/

/-- A record in flight taken from a ring returns nothing (R96, R99). -/
def RecordInFlight.clearedForAll (rec : RecordInFlight) : RecordInFlight :=
  match rec.source with
  | .ring _ => { rec with cleared := true }
  | .device => rec

/-- Every applied mark is removed (R36, R159). -/
def OutEntry.dropAnyApplied (o : OutEntry) : OutEntry :=
  match o.origin with
  | .port p n ring _ => { o with origin := .port p n ring false }
  | _ => o

/-- The source is a ring. -/
def Source.isRing : Source → Bool
  | .ring _ => true
  | .device => false

/-- The write held by port `p`, if any, is released (R82). -/
def releaseAny (p : Port) (s : State) : State :=
  match s.holds.get p with
  | some _ => releaseHeld p s
  | none => s

/-- Every ring entry is cleared (R17, R159): held writes are released unchecked, rings leave both queues, the
applied marks are removed, records in flight taken from rings return nothing. -/
def clearTable (s : State) : State :=
  let released := releaseAny .b (releaseAny .a s)
  let unmarked := released.setOutstanding (released.outstanding.map OutEntry.dropAnyApplied)
  let forgotten := mapRecords RecordInFlight.clearedForAll unmarked
  let dequeued :=
    (forgotten.setQueue .a (forgotten.queues.a.filter fun x => !x.isRing)).setQueue .b
      (forgotten.queues.b.filter fun x => !x.isRing)
  dequeued.mapRings fun _ => RingEntry.free

/-- RESET_TABLE: no operand, no parameters, always allowed (R159, R138). -/
def execResetTable (s : State) : Host.Outcome State Fault Refusal :=
  .next (performing .resetTable (fun _ t => finish .ok (clearTable t)) s)

end Sys2Proof.Machine
end

