-- ==== Sys2Proof/Machine/Grant.lean ====
section
/-! DEFINITION. The memory arbiter (9.4): the grant (R172) and what the part's blocks do in its step (R173):
the application of index writes (R33), the marks (R87), the release of a held write (R74), quiesce
observations and recovery (R62, R63), notice tail writes (R114), command head writes (R124, R134), and the
grants of the engine's accesses (R126, R131, R41). -/

namespace Sys2Proof.Machine

/-! ### Requests at the arbiter (R171) -/

/-- The requester has a request at the arbiter. -/
def hasRequest (s : State) : Requester → Bool
  | .port p => (eligibleEntry s p).isSome
  | .engine => !s.engine.requests.isEmpty
  | .notice => s.requester.job.any (·.waiting)

/-- The requester the next grant goes to: the highest in the order that has a request, while the outstanding
list has room and RESET is not asserted (R172, R176). -/
def nextGrant (s : State) : Option Requester :=
  if s.resetLine || 8 ≤ s.outstanding.length then none else s.order.find? (hasRequest s)

/-- The granted requester moves to the lowest place; the others keep their order (R172). -/
def rotate (q : Requester) (order : List Requester) : List Requester := order.erase q ++ [q]

/-- A granted request is handed to the memory port: the order rotates, the outstanding list and the memory bus
receive it (R172, R174). -/
def handOver (q : Requester) (origin : Origin) (x : Access) (s : State) : State :=
  { s with
    order := rotate q s.order
    outstanding := s.outstanding ++ [{ origin := origin, discarded := false }]
    memoryBus := s.memoryBus ++ [x] }

/-! ### The grant of an index write (R33, R34, R62, R63) -/

/-- The mark logic: FILL_HIGH and FILL_LOW on a crossing (R87). -/
def markCrossing (r : RingId) (b : RingBody) (before after : Nat) (s : State) : State :=
  let s' := if b.highMark.any fun h => before < h && h ≤ after then raiseRing r .fillHigh s else s
  if b.lowMark.any fun l => l < before && after ≤ l then raiseRing r .fillLow s' else s'

/-- A valid index write applied to its TRACKING ring (R33): the index moves, the marks are compared, and after
a tail write the held write is re-tested. -/
def applyIndex (r : RingId) (w : IndexWord) (v : Index) (s : State) : State :=
  match (s.ring r).body with
  | some b =>
    match b.phase with
    | .tracking head tail =>
      match w with
      | .head => markCrossing r b (distance head tail) (distance v tail) (s.setBody r (b.withPhase (.tracking v tail)))
      | .tail =>
        retestHeld r
          (markCrossing r b (distance head tail) (distance head v) (s.setBody r (b.withPhase (.tracking head v))))
    | _ => s
  | none => s

/-- The ring recovers when both observations are present and equal (R63). -/
def quiesceRecovery (r : RingId) (b : RingBody) (fault : FaultRecord) (obsHead obsTail : Option Index)
    (s : State) : State :=
  match obsHead, obsTail with
  | some h, some t =>
    if h = t then raiseRing r .recovered (s.setBody r (b.withPhase (.tracking h h)))
    else s.setBody r (b.withPhase (.faulted fault obsHead obsTail))
  | _, _ => s.setBody r (b.withPhase (.faulted fault obsHead obsTail))

/-- A qualifying index write granted to a FAULTED ring with recovery QUIESCE sets its observation and may
recover the ring (R62, R63). -/
def observeIndex (p : Port) (r : RingId) (w : IndexWord) (x : WriteWord) (s : State) : State :=
  match (s.ring r).body with
  | some b =>
    match b.phase with
    | .faulted fault oh ot =>
      if b.desc.recovery = .quiesce ∧ b.desc.owner w = p ∧ fullWordForm x = true then
        match w with
        | .head => quiesceRecovery r b fault (some (lowHalf x.data)) ot s
        | .tail => quiesceRecovery r b fault oh (some (lowHalf x.data)) s
      else s
    | _ => s
  | none => s

/-- The index word a class names. -/
def AccessClass.indexWord? : AccessClass → Option (RingId × IndexWord)
  | .headWord r => some (r, .head)
  | .tailWord r => some (r, .tail)
  | _ => none

/-! ### The grant of a command head write (R124, R134) -/

/-- A HALTED engine restarts (R134): the halt fields become absent, the status write is presented behind what
still waits, then the repeated report burst or the fetch. -/
def restartEngine (s : State) : State :=
  let s' := presentEngine (statusWrite s) s
  match s'.engine.report with
  | some r =>
    presentEngine (reportBurst s' r) (s'.setEngine { s'.engine with state := .reporting, phase := some .burst })
  | none => fetchOrIdle s'

/-- A valid command head write applied at its grant (R124). -/
def applyHead (v : Index) (s : State) : State :=
  let s' := s.setEngine { s.engine with head := v }
  match s.engine.state with
  | .idle => fetchOrIdle s'
  | .halted _ => restartEngine s'
  | _ => s'

/-! ### The grant of a notice tail write (R114) -/

/-- A valid notice tail write applied to the unit of its port (R114). -/
def applyNoticeTail (p : Port) (v : Index) (s : State) : State :=
  match s.units.get p with
  | some u => s.setUnit p (some { u with tail := v })
  | none => s

/-! ### The grants -/

/-- The ring of a port request, by its class (R174). -/
def InFlight.ring? (e : InFlight) : Option RingId := e.cls.bind AccessClass.ring?

/-- The request is a valid index write whose ring is TRACKING: it is applied (R33, R173). -/
def isApplied (s : State) (e : InFlight) : Bool :=
  match e.mark with
  | some (.ringIndex _ _) => e.ring?.any fun r => (s.ring r).isTracking
  | _ => false

/-- What the part's blocks do in the step of a port request's grant, by its class and marks (R173). -/
def grantEffect (p : Port) (e : InFlight) (s : State) : State :=
  match singleWrite e.request.access with
  | none => s
  | some x =>
    match e.mark with
    | some .noticeTail => applyNoticeTail p (lowHalf x.data) s
    | some .commandHead => applyHead (lowHalf x.data) s
    | some (.ringIndex r w) =>
      if (s.ring r).isTracking then applyIndex r w (lowHalf x.data) s else observeIndex p r w x s
    | none =>
      match e.cls.bind AccessClass.indexWord? with
      | some (r, w) => observeIndex p r w x s
      | none => s

/-- The grant of port `p`'s ELIGIBLE entry (R172, R173): it becomes GRANTED, its effects are made, the drain
is tested (R40), and it joins the outstanding list with its ring and applied mark. -/
def grantPort (p : Port) (e : InFlight) (s : State) : State :=
  let granted := changeEntry p InFlight.isEligible (fun e => { e with stage := .granted }) s
  handOver (.port p) (.port p e.serial e.ring? (isApplied s e)) e.request.access
    (drainTestSeeding (grantEffect p e granted))

/-- What the grant of an engine access does to the engine's own blocks. -/
def engineGrantEffect (k : EngineAccess) (s : State) : State :=
  match k with
  | .initBurst =>
    if s.engine.state = .init then
      { s with
        windowMapped := true
        engine := { s.engine with state := .idle, head := 0, tail := 0 } }
    else s
  | .tailWrite =>
    match s.engine.state, s.engine.report with
    | .reporting, some r => fetchOrIdle (s.setEngine { s.engine with tail := r.index + 1, current := none })
    | _, _ => s
  | .seedRead r .head =>
    match (s.ring r).body with
    | some b => presentEngine (seedRead r b.desc .tail) s
    | none => s
  | .seedRead _ .tail => s
  | .fetch => s
  | .reportBurst => s
  | .haltBurst => s
  | .statusWrite => s

/-- The grant of the engine's request (R173): the access leaves the arbiter, and its effects are made. -/
def grantEngine (q : EngineRequest) (rest : List EngineRequest) (s : State) : State :=
  handOver .engine (.engine q.kind) q.access
    (engineGrantEffect q.kind (s.setEngine { s.engine with requests := rest }))

/-- The grant of the notice writer's request. -/
def grantNotice (j : NoticeJob) (s : State) : State :=
  handOver .notice (.notice j.unit j.write) j.access (s.setJob (some { j with waiting := false }))

/-- The grant of one requester's request. -/
def grantTo (q : Requester) (s : State) : State :=
  match q with
  | .port p =>
    match eligibleEntry s p with
    | some e => grantPort p e s
    | none => s
  | .engine =>
    match s.engine.requests with
    | k :: rest => grantEngine k rest s
    | [] => s
  | .notice =>
    match s.requester.job with
    | some j => grantNotice j s
    | none => s

/-- One grant of the arbiter (R172); none when no requester has a request or the outstanding list is full. -/
def arbitrate (s : State) : State :=
  match nextGrant s with
  | some q => grantTo q s
  | none => s

/-- GRANT. -/
def execGrant (s : State) : Host.Outcome State Fault Refusal := .next (arbitrate s)

end Sys2Proof.Machine
end

