-- ==== Sys2Proof/Machine/Responses.lean ====
section
/-! DEFINITION. Memory responses (R174, R175): the answer of the oldest outstanding entry, routed to the port
(R36), to the engine (R41 to R43, R126 to R128, R131 to R134) or dropped. A response command names whose
response it is; it arrives only when the oldest entry is that one (log entry 10). -/

namespace Sys2Proof.Machine

/-- Memory answers the oldest entry, which is not discarded and whose origin is `origin`: it leaves the list
(R174), and `act` is done. Otherwise no such response arrives. -/
def answered (isIt : Origin → Bool) (act : Origin → State → State) (s : State) : State :=
  match s.outstanding with
  | [] => s
  | o :: rest => if !o.discarded && isIt o.origin then act o.origin (s.setOutstanding rest) else s

/-! ### Port requests -/

/-- The status of a response on a port bus (R161). -/
def busStatus : MemStatus → BusStatus
  | .okay => .okay
  | .memErr => .memErr

/-- The data of a response: the words memory returned for a READ, none for a WRITE (R161). -/
def responseData (x : Access) (data : List Word) : List Word :=
  match x.transfer with
  | .read _ => data
  | .write _ => []

/-- Memory returns one word for each word of a READ (R161). -/
def dataFits (x : Access) (data : List Word) : Bool :=
  match x.transfer with
  | .read n => data.length == n
  | .write _ => true

/-- The in-flight entry of port `p` with a given serial. -/
def entryWith (s : State) (p : Port) (serial : Nat) : Option InFlight :=
  (s.inFlight p).find? fun e => e.serial == serial

/-- The in-flight entry becomes DONE with memory's status and data (R175); a MEMERR on a write with an applied
mark faults its ring when it is TRACKING (R36). -/
def answerPort (p : Port) (serial : Nat) (ring : Option RingId) (applied : Bool) (status : MemStatus)
    (data : List Word) (s : State) : State :=
  match entryWith s p serial with
  | none => s
  | some e =>
    let x := e.request.access
    let s' := changeEntry p (fun e => e.serial == serial)
      (fun e => { e with stage := .done (busStatus status) (responseData x data) }) s
    match ring with
    | some r => if applied ∧ status = .memErr then faultEntry r (.memoryError p x.addr) s' else s'
    | none => s'

/-- The oldest entry is a port request that these data can answer. -/
def answersPort (s : State) (data : List Word) : Origin → Bool
  | .port p serial _ _ => (entryWith s p serial).any fun e => dataFits e.request.access data
  | _ => false

/-- A memory response to a port request (R175). -/
def memoryAnswer (status : MemStatus) (data : List Word) (s : State) : State :=
  answered (answersPort s data)
    (fun o t =>
      match o with
      | .port p serial ring applied => answerPort p serial ring applied status data t
      | _ => t)
    s

/-- MEMORY_RESPONSE. -/
def execMemoryResponse (status : MemStatus) (data : List Word) (s : State) : Host.Outcome State Fault Refusal :=
  .next (memoryAnswer status data s)

/-- A response whose entry is discarded leaves the list and does nothing else; a response that finds the list
empty is discarded (R175). -/
def dropResponse (s : State) : State :=
  match s.outstanding with
  | [] => s
  | o :: rest => if o.discarded then s.setOutstanding rest else s

/-- DISCARDED_RESPONSE. -/
def execDiscardedResponse (s : State) : Host.Outcome State Fault Refusal := .next (dropResponse s)

/-! ### Seed reads (R41 to R43) -/

/-- A response as a seed: the word read, or MEMERR (R41). -/
def seedOf (status : MemStatus) (word : Word) : Seed :=
  match status with
  | .okay => .word word
  | .memErr => .memErr

/-- The status of a seeding with both seeds present, by the tests in their order (R42). -/
def seedingStatus (d : Descriptor) (peerReset : Bool) (headSeed tailSeed : Seed) : CommandStatus :=
  match headSeed, tailSeed with
  | .word h, .word t =>
    if peerReset then .peerReset
    else if highHalf h ≠ 0 ∨ highHalf t ≠ 0 ∨ d.slotCount < distance (lowHalf h) (lowHalf t) then .seedInvalid
    else .ok
  | _, _ => .memoryError

/-- The phase a seeding leaves the ring in (R42, R43). -/
def settledPhase (status : CommandStatus) (purpose : SeedPurpose) (headSeed tailSeed : Seed) : RingPhase :=
  match status, headSeed, tailSeed with
  | .ok, .word h, .word t => .tracking (lowHalf h) (lowHalf t)
  | _, _, _ =>
    match purpose with
    | .arm => .defined
    | .clearFault f => .faulted (if status = .peerReset then { f with cause := .peerReset } else f) none none

/-- The seeding settles (R42, R43): the ring leaves SEEDING, stalled requests are presented anew (R39), and the
command's wait ends with the status (R130). -/
def settleSeeding (r : RingId) (b : RingBody) (rec : SeedingRecord) (headSeed tailSeed : Seed) (s : State) :
    State :=
  let status := seedingStatus b.desc rec.peerReset headSeed tailSeed
  let left := unstallAll (s.setBody r (b.withPhase (settledPhase status rec.purpose headSeed tailSeed)))
  settleWait (.seeding r) status (fetchedParams left) left

/-- A seed arrives for ring `r` in step READING (R41): it fills its place, and with both present the seeding
settles. -/
def fillSeed (r : RingId) (w : IndexWord) (seed : Seed) (s : State) : State :=
  match (s.ring r).body with
  | some b =>
    match b.phase with
    | .seeding rec =>
      if rec.step = .reading then
        let rec' : SeedingRecord :=
          match w with
          | .head => { rec with headSeed := some seed }
          | .tail => { rec with tailSeed := some seed }
        match rec'.headSeed, rec'.tailSeed with
        | some h, some t => settleSeeding r b rec' h t s
        | _, _ => s.setBody r (b.withPhase (.seeding rec'))
      else s
    | _ => s
  | none => s

/-- The oldest entry is a seed read. -/
def answersSeed : Origin → Bool
  | .engine (.seedRead _ _) => true
  | _ => false

/-- A seed read response (R41). -/
def seedAnswer (status : MemStatus) (word : Word) (s : State) : State :=
  answered answersSeed
    (fun o t =>
      match o with
      | .engine (.seedRead r w) => fillSeed r w (seedOf status word) t
      | _ => t)
    s

/-- SEED_RESPONSE. -/
def execSeedResponse (status : MemStatus) (word : Word) (s : State) : Host.Outcome State Fault Refusal :=
  .next (seedAnswer status word s)

/-! ### The engine's other accesses -/

/-- The oldest entry is the engine access `k`. -/
def answersEngine (k : EngineAccess) (o : Origin) : Bool := o == .engine k

/-- The halt slot of an index: index mod 32 (R128, R132). -/
def haltSlot (i : Index) : Fin 32 := ⟨i.toNat % 32, Nat.mod_lt _ (by decide)⟩

/-- A fetch is answered in FETCHING: OKAY makes the words the current command and the engine EXECUTING (R127);
MEMERR halts it (R128). -/
def fetched (status : MemStatus) (words : SlotWords) (s : State) : State :=
  if s.engine.state = .fetching then
    match status with
    | .okay =>
      s.setEngine
        { s.engine with state := .executing, current := some { index := s.engine.tail, words := words } }
    | .memErr =>
      haltEngine
        { cause := .fetchError, slot := haltSlot s.engine.tail, address := slotAddr s s.engine.tail } s
  else s

/-- FETCH_RESPONSE. -/
def execFetchResponse (status : MemStatus) (words : SlotWords) (s : State) : Host.Outcome State Fault Refusal :=
  .next (answered (answersEngine .fetch) (fun _ t => fetched status words t) s)

/-- A report burst is answered in REPORTING: OKAY lets the tail write be presented (R131); MEMERR halts the
engine, and the report is kept (R132). -/
def reportBurstAnswered (status : MemStatus) (s : State) : State :=
  match s.engine.state, s.engine.report with
  | .reporting, some r =>
    match status with
    | .okay => presentEngine (tailWrite s r) (s.setEngine { s.engine with phase := some .tail })
    | .memErr =>
      haltEngine { cause := .reportError, slot := haltSlot r.index, address := slotAddr s r.index + 4 } s
  | _, _ => s

/-- REPORT_BURST_RESPONSE. -/
def execReportBurstResponse (status : MemStatus) (s : State) : Host.Outcome State Fault Refusal :=
  .next (answered (answersEngine .reportBurst) (fun _ t => reportBurstAnswered status t) s)

/-- A report's tail write is answered in IDLE or FETCHING: OKAY discards the report (R131); MEMERR halts the
engine, and the report is kept (R132). -/
def reportTailAnswered (status : MemStatus) (s : State) : State :=
  if s.engine.state = .idle ∨ s.engine.state = .fetching then
    match s.engine.report with
    | some r =>
      match status with
      | .okay => s.setEngine { s.engine with report := none, phase := none }
      | .memErr =>
        haltEngine { cause := .reportError, slot := haltSlot r.index, address := windowBase s + 4 } s
    | none => s
  else s

/-- REPORT_TAIL_RESPONSE. -/
def execReportTailResponse (status : MemStatus) (s : State) : Host.Outcome State Fault Refusal :=
  .next (answered (answersEngine .tailWrite) (fun _ t => reportTailAnswered status t) s)

/-- INITIALISATION_BURST_RESPONSE: it changes nothing in the engine, even on MEMERR (R126). -/
def execInitialisationBurstResponse (_status : MemStatus) (s : State) : Host.Outcome State Fault Refusal :=
  .next (answered (answersEngine .initBurst) (fun _ t => t) s)

/-- HALT_BURST_RESPONSE: it changes nothing, even on MEMERR (R133). -/
def execHaltBurstResponse (_status : MemStatus) (s : State) : Host.Outcome State Fault Refusal :=
  .next (answered (answersEngine .haltBurst) (fun _ t => t) s)

/-- RESTART_STATUS_WRITE_RESPONSE: it changes nothing, even on MEMERR (R134). -/
def execRestartStatusWriteResponse (_status : MemStatus) (s : State) : Host.Outcome State Fault Refusal :=
  .next (answered (answersEngine .statusWrite) (fun _ t => t) s)

end Sys2Proof.Machine
end

