-- ==== Sys2Proof/Machine/NoticeWriter.lean ====
section
/-! DEFINITION. The notice writer (06): the choice of a job (R109), the setup writes (R107), the taking and
writing of records (R95, R110, R111), their failure (R116) and the closing of a unit (R108). -/

namespace Sys2Proof.Machine

/-! ### Jobs (R109) -/

/-- The kinds of job (R109). -/
inductive JobKind where
  | record
  | setup
deriving DecidableEq, Repr

/-- The job a unit has (R109): a record job when it is READY, not closing, with no record in flight, a source
queued and a free slot (R112); a setup job when it is SETTING_UP. While the requester is free a SETTING_UP
unit's writes are not yet issued. -/
def jobOf (s : State) (p : Port) : Option JobKind :=
  match s.units.get p with
  | none => none
  | some u =>
    match u.phase with
    | .settingUp => some .setup
    | .ready none false => if (s.queues.get p).isEmpty = false ∧ u.fill < u.slotCount then some .record else none
    | .ready _ _ => none
    | .halted _ => none

/-- The unit a free requester serves and its job: the one that is not the last-served when both have a job
(R109). -/
def nextJob (s : State) : Option (Port × JobKind) :=
  match s.requester.job with
  | some _ => none
  | none =>
    let first := other s.requester.lastServed
    match jobOf s first with
    | some k => some (first, k)
    | none => (jobOf s s.requester.lastServed).map fun k => (s.requester.lastServed, k)

/-- The requester serves a unit and presents a write at the arbiter; the unit becomes the last-served one
(R109). -/
def serve (p : Port) (w : NoticeWrite) (x : Access) (s : State) : State :=
  { s with requester := { lastServed := p, job := some { unit := p, write := w, access := x, waiting := true } } }

/-- The job's next write is presented at the arbiter. -/
def nextWrite (p : Port) (w : NoticeWrite) (x : Access) (s : State) : State :=
  s.setJob (some { unit := p, write := w, access := x, waiting := true })

/-! ### Setup (R106, R107) -/

/-- SETUP_JOB: the head word's setup write is presented (R107). -/
def serveSetup (s : State) : State :=
  match nextJob s with
  | some (p, .setup) =>
    match s.units.get p with
    | some u => serve p .setupHead (partWrite u.headAddr [indexAsWord 0]) s
    | none => s
  | _ => s

/-- SETUP_JOB. -/
def execSetupJob (s : State) : Host.Outcome State Fault Refusal := .next (serveSetup s)

/-- A setup that meets MEMERR (R107): the unit becomes OFF, and SETUP_NOTICE settles MEMORY_ERROR. -/
def failSetup (p : Port) (s : State) : State :=
  let s' := unitOff p (s.setJob none)
  settleWait (.setup p) .memoryError (fetchedParams s') s'

/-- A setup write of port `p`'s unit is answered (R107). -/
def setupAnswered (p : Port) (w : NoticeWrite) (status : MemStatus) (s : State) : State :=
  match s.units.get p with
  | none => s
  | some u =>
    match u.phase, status, w with
    | .settingUp, .memErr, _ => failSetup p s
    | .settingUp, .okay, .setupHead => nextWrite p .setupTail (partWrite u.tailAddr [indexAsWord 0]) s
    | .settingUp, .okay, .setupTail =>
      let s' := (s.setUnit p (some { u with phase := .ready none false })).setJob none
      settleWait (.setup p) .ok (fetchedParams s') s'
    | _, _, _ => s

/-- The oldest entry is a setup write. -/
def answersSetup : Origin → Bool
  | .notice _ .setupHead => true
  | .notice _ .setupTail => true
  | _ => false

/-- SETUP_WRITE_RESPONSE. -/
def execSetupWriteResponse (status : MemStatus) (s : State) : Host.Outcome State Fault Refusal :=
  .next
    (answered answersSetup
      (fun o t =>
        match o with
        | .notice p w => setupAnswered p w status t
        | _ => t)
      s)

/-! ### Records (R95, R110, R111, R116) -/

/-- The address of a notice ring's slot (R103). -/
def noticeSlotAddr (u : NoticeUnit) (slot : Nat) : Word := u.base + BitVec.ofNat 32 (32 * slot)

/-- A record is taken from the front source (R95, R110): its set is emptied, it leaves the queue, and the
record burst is presented. -/
def takeRecord (p : Port) (u : NoticeUnit) (closing : Bool) (src : Source) (s : State) : State :=
  let kinds := pendingSet s src p
  let words := recordWords s src kinds u.seq
  let slot := slotIndex u.head u.slotCount
  let rec' : RecordInFlight :=
    { source := src, kinds := kinds, words := words, slot := slot, phase := .burst, cleared := false }
  serve p .recordBurst (partWrite (noticeSlotAddr u slot) words)
    ((dequeue src p (setPendingSet src p 0 s)).setUnit p (some { u with phase := .ready (some rec') closing }))

/-- RECORD_TAKING. -/
def serveRecord (s : State) : State :=
  match nextJob s with
  | some (p, .record) =>
    match s.units.get p, s.queues.get p with
    | some u, src :: _ => takeRecord p u false src s
    | _, _ => s
  | _ => s

/-- RECORD_TAKING. -/
def execRecordTaking (s : State) : Host.Outcome State Fault Refusal := .next (serveRecord s)

/-- The record fails (R116): its kinds are returned (R96), the job ends, and the unit becomes HALTED with the
failing write, or OFF when it is closing, and then NOTICE_OFF settles (R108). -/
def failRecord (p : Port) (u : NoticeUnit) (rec : RecordInFlight) (closing : Bool) (f : FailingWrite)
    (s : State) : State :=
  let s' := returnKinds p rec ((s.setUnit p (some { u with phase := .halted f })).setJob none)
  if closing then settleWait (.noticeOff p) .ok (noticeOffResult (some f)) (unitOff p s') else s'

/-- The record completes (R111): head and sequence number advance, the job ends; a closing unit becomes OFF and
NOTICE_OFF settles (R108). -/
def completeRecord (p : Port) (u : NoticeUnit) (closing : Bool) (s : State) : State :=
  let s' :=
    (s.setUnit p (some { u with head := u.head + 1, seq := u.seq + 1, phase := .ready none closing })).setJob none
  if closing then settleWait (.noticeOff p) .ok (noticeOffResult none) (unitOff p s') else s'

/-- A write of the record in flight of port `p`'s unit is answered (R111, R116). -/
def recordAnswered (p : Port) (w : NoticeWrite) (status : MemStatus) (s : State) : State :=
  match s.units.get p with
  | none => s
  | some u =>
    match u.phase with
    | .ready (some rec) closing =>
      match w, rec.phase, status with
      | .recordBurst, .burst, .okay =>
        nextWrite p .recordHead (partWrite u.headAddr [indexAsWord (u.head + 1)])
          (s.setUnit p (some { u with phase := .ready (some { rec with phase := .head }) closing }))
      | .recordBurst, .burst, .memErr =>
        failRecord p u rec closing { address := noticeSlotAddr u rec.slot, which := .burst } s
      | .recordHead, .head, .okay => completeRecord p u closing s
      | .recordHead, .head, .memErr => failRecord p u rec closing { address := u.headAddr, which := .head } s
      | _, _, _ => s
    | _ => s

/-- The oldest entry is a given write of a record. -/
def answersRecord (w : NoticeWrite) : Origin → Bool
  | .notice _ w' => w' == w
  | _ => false

/-- RECORD_BURST_RESPONSE. -/
def execRecordBurstResponse (status : MemStatus) (s : State) : Host.Outcome State Fault Refusal :=
  .next
    (answered (answersRecord .recordBurst)
      (fun o t =>
        match o with
        | .notice p _ => recordAnswered p .recordBurst status t
        | _ => t)
      s)

/-- NOTICE_HEAD_WRITE_RESPONSE. -/
def execNoticeHeadWriteResponse (status : MemStatus) (s : State) : Host.Outcome State Fault Refusal :=
  .next
    (answered (answersRecord .recordHead)
      (fun o t =>
        match o with
        | .notice p _ => recordAnswered p .recordHead status t
        | _ => t)
      s)

end Sys2Proof.Machine
end

