-- ==== Sys2Proof/Machine/Ports.lean ====
section
/-! DEFINITION. The port interfaces' own happenings: acceptance (R163) and the departure of responses
(R166). -/

namespace Sys2Proof.Machine

/-- The conditions of acceptance (R163): room in the list, no reset line asserted, and the initialisation
burst granted since the release of RESET and, for the managing port, since its last reset. The window is
in the map from that first grant (R126), and the engine is in INIT exactly until the later one (R135). -/
def mayAccept (s : State) (p : Port) : Bool :=
  (s.inFlight p).length < 8 && !s.portReset.get p && !s.resetLine && s.windowMapped &&
    !(s.mgmt == p && s.engine.state == .init)

/-- Acceptance: the request joins the back of the list as QUEUED (R163). A request no port bus carries
(R160) is not taken (log entry 11). -/
def accept (p : Port) (q : Request) (s : State) : State :=
  if mayAccept s p && q.wf then
    let i := s.ports.get p
    { s with
      ports := s.ports.set p
        { inFlight := i.inFlight ++
            [{ serial := i.nextSerial, request := q, stage := .queued, cls := none, mark := none }]
          nextSerial := i.nextSerial + 1 } }
  else s

/-- ACCEPTANCE. -/
def execAcceptance (p : Port) (q : Request) (s : State) : Host.Outcome State Fault Refusal :=
  .next (accept p q s)

/-- The departure of the front entry's response when it is DONE (R166). -/
def depart (p : Port) (s : State) : State :=
  match s.inFlight p with
  | [] => s
  | e :: rest =>
    match e.stage with
    | .done status data =>
      let s' := s.setInFlight p rest
      { s' with
        responseBus := s'.responseBus.set p
          (s'.responseBus.get p ++ [{ tag := e.request.tag, status := status, data := data }]) }
    | _ => s

/-- RESPONSE_DEPARTURE. -/
def execResponseDeparture (p : Port) (s : State) : Host.Outcome State Fault Refusal := .next (depart p s)

end Sys2Proof.Machine
end

