-- ==== Sys2Proof/Machine/Presentation.lean ====
section
/-! DEFINITION. Presentation (R164, R165): the checker's outcome for each class (R168), with the index
checks (2.1, 2.2), the occupancy rule (3.1, 3.2), the hold decision (4.3), the crossing charge (R55, R169),
and the protection of the control window (R122, R123) and the notice regions (R113, R115). -/

namespace Sys2Proof.Machine

/-! ### The outcomes (R165): the presented entry takes its stage, its class and the mark the checker gave -/

/-- Change the presented entry, the port's oldest QUEUED one. -/
def changePresented (p : Port) (f : InFlight → InFlight) (s : State) : State :=
  changeEntry p InFlight.isQueued f s

/-- Refused: DONE with status REFUSED (R165, R53). -/
def refusePresented (p : Port) (cls : Option AccessClass) (s : State) : State :=
  changePresented p (fun e => { e.refuse with cls := cls, mark := none }) s

/-- Stalled (R38). -/
def stallPresented (p : Port) (cls : AccessClass) (s : State) : State :=
  changePresented p (fun e => { e with stage := .stalled, cls := some cls, mark := none }) s

/-- Forwarded: ELIGIBLE with the checker's mark (R165). -/
def forwardPresented (p : Port) (cls : AccessClass) (mark : Option ApplyMark) (s : State) : State :=
  changePresented p (fun e => { e with stage := .eligible, cls := some cls, mark := mark }) s

/-- Held: the hold slot becomes HOLDING and the request HELD (R72). -/
def holdPresented (p : Port) (cls : AccessClass) (h : HoldSlot) (s : State) : State :=
  changePresented p (fun e => { e with stage := .held, cls := some cls, mark := none }) (s.setHold p (some h))

/-! ### Index writes of a TRACKING ring (R25 to R32) -/

/-- The form, owner and advance checks in their order; the first that fails names the violation (R25 to
R29). -/
def indexCheck (d : Descriptor) (head tail : Index) (w : IndexWord) (p : Port) (x : WriteWord) :
    Option ViolationKind :=
  if fullWordForm x = false then some .indexForm
  else if d.owner w ≠ p then some .wrongOwner
  else
    match w with
    | .head =>
      if distance (lowHalf x.data) head ≤ d.slotCount - distance head tail then none else some .headJump
    | .tail => if distance (lowHalf x.data) tail ≤ distance head tail then none else some .tailJump

/-- The class of an access to an index word. -/
def indexClass (r : RingId) : IndexWord → AccessClass
  | .head => .headWord r
  | .tail => .tailWord r

/-- The outcome of an index write of a TRACKING ring (R30 to R32). -/
def presentIndexWrite (p : Port) (r : RingId) (w : IndexWord) (d : Descriptor) (head tail : Index)
    (addr : Word) (x : WriteWord) (s : State) : State :=
  match indexCheck d head tail w p x with
  | none => forwardPresented p (indexClass r w) (some (.ringIndex r w)) s
  | some k =>
    match d.guardMode with
    | .observe =>
      forwardPresented p (indexClass r w) none
        (faultEntry r (.index k p addr (writtenValue x)) (chargeViolation r k p addr s))
    | .refuse => refusePresented p (some (indexClass r w)) (chargeViolation r k p addr s)
    | .hold => refusePresented p (some (indexClass r w)) (chargeViolation r k p addr s)

/-- An access of class HEAD_WORD(r) or TAIL_WORD(r) (R24). -/
def presentIndex (p : Port) (r : RingId) (w : IndexWord) (x : Access) (s : State) : State :=
  match (s.ring r).body with
  | none => forwardPresented p (indexClass r w) none s
  | some b =>
    match b.phase with
    | .seeding _ => stallPresented p (indexClass r w) s
    | .tracking head tail =>
      match singleWrite x with
      | some ww => presentIndexWrite p r w b.desc head tail x.addr ww s
      | none => forwardPresented p (indexClass r w) none s
    | .faulted _ _ _ => forwardPresented p (indexClass r w) none s
    | .defined => forwardPresented p (indexClass r w) none s

/-! ### The data area of a TRACKING ring (R46 to R54, R72, R73) -/

/-- The occupancy rule over every slot touched (R47 to R49). -/
def occupancyCheck (d : Descriptor) (head tail : Index) (p : Port) (x : Access) : Option ViolationKind :=
  let slots := slotsTouched d x
  let occupied (k : Nat) : Bool := slotOccupied d.slotCount head tail k
  if p = d.producer then
    if isWrite x && slots.any occupied then some .overwrite else none
  else if isWrite x then
    if slots.all fun k => occupied k && d.writeback then none else some .wrongSide
  else if slots.all occupied then none
  else some .staleRead

/-- A hold candidate (R72, R73): held when the other port's hold slot is EMPTY, else refused as
HOLD_CONFLICT. -/
def presentCandidate (p : Port) (r : RingId) (d : Descriptor) (x : Access) (s : State) : State :=
  match s.holds.get (other p) with
  | none =>
    holdPresented p (.ringData r) { ring := r, slots := slotsTouched d x, first := x.addr, start := s.time } s
  | some _ => refusePresented p (some (.ringData r)) (chargeViolation r .holdConflict p x.addr s)

/-- The outcome of a data-area violation by guard mode (R51, R52, R54). -/
def presentDataViolation (p : Port) (r : RingId) (d : Descriptor) (k : ViolationKind) (x : Access)
    (s : State) : State :=
  match d.guardMode with
  | .observe => forwardPresented p (.ringData r) none (chargeViolation r k p x.addr s)
  | .refuse => refusePresented p (some (.ringData r)) (chargeViolation r k p x.addr s)
  | .hold =>
    if k = .overwrite then presentCandidate p r d x s
    else refusePresented p (some (.ringData r)) (chargeViolation r k p x.addr s)

/-- An access of class RING_DATA(r) (R46). -/
def presentData (p : Port) (r : RingId) (x : Access) (s : State) : State :=
  match (s.ring r).body with
  | none => forwardPresented p (.ringData r) none s
  | some b =>
    match b.phase with
    | .seeding _ => stallPresented p (.ringData r) s
    | .tracking head tail =>
      match occupancyCheck b.desc head tail p x with
      | none => forwardPresented p (.ringData r) none s
      | some k => presentDataViolation p r b.desc k x s
    | .faulted _ _ _ => forwardPresented p (.ringData r) none s
    | .defined => forwardPresented p (.ringData r) none s

/-! ### The control window (R122, R123) -/

/-- The form and bounds checks of a command head write (R123). -/
def headWriteValid (s : State) (x : WriteWord) : Bool :=
  let v := lowHalf x.data
  fullWordForm x && (distance v s.engine.head ≤ distance v s.engine.tail && distance v s.engine.tail ≤ 32)

/-- A write refused in the window or across it: a managing port's that covers word 0 raises HEAD_REFUSED
(R122, R169). -/
def refuseWindowWrite (p : Port) (cls : AccessClass) (x : Access) (s : State) : State :=
  let s' := if p = s.mgmt ∧ isWrite x = true ∧ coversWindowWord s x 0 = true
    then raiseDevice s.mgmt .headRefused s else s
  refusePresented p (some cls) s'

/-- An access of class CONTROL_HEADER or COMMAND_SLOT (R122). -/
def presentWindow (p : Port) (cls : AccessClass) (x : Access) (s : State) : State :=
  if isWrite x = false then forwardPresented p cls none s
  else if p ≠ s.mgmt then refusePresented p (some cls) s
  else if cls = .commandSlot then forwardPresented p cls none s
  else
    match singleWrite x with
    | some w =>
      if coversWindowWord s x 0 && headWriteValid s w then forwardPresented p cls (some .commandHead) s
      else refuseWindowWrite p cls x s
    | none => refuseWindowWrite p cls x s

/-! ### Notice regions (R113, R115) -/

/-- The form and advance checks of a notice tail write (R113). -/
def noticeTailValid (u : NoticeUnit) (x : WriteWord) : Bool :=
  fullWordForm x && distance (lowHalf x.data) u.tail ≤ u.fill

/-- An access of class NOTICE_DATA, NOTICE_HEAD or NOTICE_TAIL of port `u`'s unit (R115). -/
def presentNotice (p : Port) (cls : AccessClass) (x : Access) (s : State) : State :=
  if isWrite x = false then forwardPresented p cls none s
  else if cls = .noticeTail p then
    match s.units.get p, singleWrite x with
    | some u, some w =>
      if noticeTailValid u w then forwardPresented p cls (some .noticeTail) s else refusePresented p (some cls) s
    | _, _ => refusePresented p (some cls) s
  else refusePresented p (some cls) s

/-! ### Crossing accesses (R55, R169) -/

/-- The ring a CROSSING access is charged to: the TRACKING ring whose region holds the lowest of its words in
TRACKING rings' regions (R55). -/
def chargedRing (s : State) (x : Access) : Option RingId :=
  (ringsTouched s x).find? fun r => (s.ring r).isTracking

/-- A CROSSING access, by the four steps of R169. -/
def presentCrossing (p : Port) (x : Access) (s : State) : State :=
  if (ringsTouched s x).any fun r => (s.ring r).isSeeding then stallPresented p .crossing s
  else if touchesProtected s x then refuseWindowWrite p .crossing x s
  else
    match chargedRing s x with
    | none => forwardPresented p .crossing none s
    | some r =>
      let s' := chargeViolation r .crossing p x.addr s
      if (s.ring r).body.any fun b => b.desc.guardMode == .observe then forwardPresented p .crossing none s'
      else refusePresented p (some .crossing) s'

/-! ### The checker (R168) -/

/-- The checker's outcome for a classified request. -/
def presentClassified (p : Port) (x : Access) (s : State) : State :=
  match classify s x with
  | .plain => forwardPresented p .plain none s
  | .ringData r => presentData p r x s
  | .headWord r => presentIndex p r .head x s
  | .tailWord r => presentIndex p r .tail x s
  | .controlHeader => presentWindow p .controlHeader x s
  | .commandSlot => presentWindow p .commandSlot x s
  | .noticeData u => presentNotice p (.noticeData u) x s
  | .noticeHead u => presentNotice p (.noticeHead u) x s
  | .noticeTail u => presentNotice p (.noticeTail u) x s
  | .crossing => presentCrossing p x s

/-- A port presents when it has no STALLED, ELIGIBLE or HELD entry (R164) and its reset line is not asserted
(R177). -/
def mayPresent (s : State) (p : Port) : Bool :=
  !s.portReset.get p &&
    (s.inFlight p).all fun e => !(e.isStalled || e.isEligible || e.isHeld)

/-- The port's oldest QUEUED request. -/
def oldestQueued (s : State) (p : Port) : Option InFlight := (s.inFlight p).find? InFlight.isQueued

/-- Presentation (R164): a request that runs past FFFFFFFFH is refused without classification (R160); any
other is classified and checked. -/
def present (p : Port) (s : State) : State :=
  if mayPresent s p then
    match oldestQueued s p with
    | none => s
    | some e =>
      if runsPast e.request.access then refusePresented p none s
      else presentClassified p e.request.access s
  else s

/-- PRESENTATION. -/
def execPresentation (p : Port) (s : State) : Host.Outcome State Fault Refusal := .next (present p s)

end Sys2Proof.Machine
end

