-- ==== Sys2Proof/Config.lean ====
section
/-! DEFINITION. The free values: what the manual leaves open and the model leaves open too. -/

namespace Sys2Proof

/-- FREE VALUE (log entry 8). One assertion of a port reset line faults every TRACKING ring in one step
(R19, R92). The manual does not say in which order those rings raise FAULT and so join a notice queue.
At the `n`-th such assertion ring `r` has this key, and the rings are taken by rising key; the
constant has no body, so every order is possible and none can be proved. -/
opaque Config.faultOrderKey : (n : Nat) → (r : Nat) → Nat

end Sys2Proof
end

