-- ==== Sys2Proof/Machine/ResetLines.lean ====
section
/-! DEFINITION. The reset lines (9.6): RESET, PRST_A and PRST_B. -/

namespace Sys2Proof.Machine

/-! ### RESET (R176) -/

/-- The assertion of RESET (R176): every block takes its power-on values in one step. The levels of PRST_A
and PRST_B are pins; the buses' records, the free values' counter and the waiting commands are the
model's own; those stay. -/
def assertReset (s : State) : State :=
  { State.reset with
    pending := s.pending
    portReset := s.portReset
    memoryBus := s.memoryBus
    responseBus := s.responseBus
    freeCount := s.freeCount }

/-- RESET_ASSERT. -/
def execResetAssert (s : State) : Host.Outcome State Fault Refusal := .next (assertReset s)

/-- The release of RESET (R176, R120): the straps are sampled, the arbiter's order is set, and the engine
presents the initialisation burst (R126). -/
def releaseReset (ctlBase : BitVec 21) (mgmtSel : Port) (s : State) : State :=
  if s.resetLine then
    let s' := { s with resetLine := false, ctlBase := ctlBase, mgmt := mgmtSel, order := powerOnOrder }
    presentEngine (initBurst s') s'
  else s

/-- RESET_RELEASE. -/
def execResetRelease (ctlBase : BitVec 21) (mgmtSel : Port) (s : State) : Host.Outcome State Fault Refusal :=
  .next (releaseReset ctlBase mgmtSel s)

/-! ### The assertion of a port reset line (R177, R178) -/

/-- The port's line changes its level. -/
def setPortReset (p : Port) (level : Bool) (s : State) : State :=
  { s with portReset := s.portReset.set p level }

/-- The entry is a request of port `p`: its response is discarded on arrival. -/
def OutEntry.discardPort (p : Port) (o : OutEntry) : OutEntry :=
  match o.origin with
  | .port q _ _ _ => if q = p then { o with discarded := true } else o
  | _ => o

/-- The port's requests are discarded (R177): the in-flight list is emptied, its granted requests' outstanding
entries are marked discarded, its hold slot becomes EMPTY (R83). -/
def discardRequests (p : Port) (s : State) : State :=
  ((s.setInFlight p []).setOutstanding (s.outstanding.map (OutEntry.discardPort p))).setHold p none

/-- The TRACKING rings, in the order the free value gives (R19, R92; log entry 8). -/
def faultOrder (s : State) : List RingId :=
  (ringIds.filter fun r => (s.ring r).isTracking).insertionSort
    fun r r' => Config.faultOrderKey s.freeCount r.val ≤ Config.faultOrderKey s.freeCount r'.val

/-- Every TRACKING ring enters FAULTED with fault kind PEER_RESET (R19, R56). -/
def faultTracking (s : State) : State :=
  (faultOrder s).foldl (fun t r => faultEntry r .peerReset t) { s with freeCount := s.freeCount + 1 }

/-- The peer-reset flag of a SEEDING entry is set (R19). -/
def RingEntry.flagPeerReset (e : RingEntry) : RingEntry :=
  match e.body with
  | some b =>
    match b.phase with
    | .seeding rec => { e with body := some (b.withPhase (.seeding { rec with peerReset := true })) }
    | _ => e
  | none => e

/-- The reset port's unit becomes OFF and its job is given up (R119). A command waiting for that unit settles,
unless the port is the managing port, whose reset abandons the command (R107, R108). -/
def resetUnit (p : Port) (s : State) : State :=
  let s' := abandonJob p (unitOff p s)
  if p = s.mgmt then s'
  else
    settleWait (.noticeOff p) .ok (noticeOffResult none)
      (settleWait (.setup p) .peerReset (fetchedParams s') s')

/-- The fault record restored with fault kind PEER_RESET: the fields of other kinds become absent and the time
keeps its value (R43, R45). -/
def FaultRecord.asPeerReset (f : FaultRecord) : FaultRecord := { f with cause := .peerReset }

/-- A managing port reset abandons the seeding (R45): ARM returns the ring to DEFINED, CLEAR_FAULT to FAULTED
with the record set aside, its kind made PEER_RESET, and the observations absent; stalled requests are
presented anew (R39). -/
def abandonSeeding (s : State) : State :=
  match seedingRing s with
  | none => s
  | some r =>
    match (s.ring r).body with
    | some b =>
      match b.phase with
      | .seeding rec =>
        let ph : RingPhase :=
          match rec.purpose with
          | .arm => .defined
          | .clearFault f => .faulted f.asPeerReset none none
        unstallAll (s.setBody r (b.withPhase ph))
      | _ => s
    | none => s

/-- A unit's closing flag is cleared (R108). -/
def NoticeUnit.stopClosing (u : NoticeUnit) : NoticeUnit :=
  match u.phase with
  | .ready rec _ => { u with phase := .ready rec false }
  | _ => u

/-- A managing port reset ends the notice unit command the engine waits for (R107, R108): a unit being set up
becomes OFF, a closing unit stays RUNNING with its flag clear. -/
def abandonUnitWait (s : State) : State :=
  match s.engine.state with
  | .waiting (.setup u) => abandonJob u (unitOff u s)
  | .waiting (.noticeOff u) => s.setUnit u ((s.units.get u).map NoticeUnit.stopClosing)
  | _ => s

/-- The entry is an engine access: its response is discarded on arrival. -/
def OutEntry.discardEngine (o : OutEntry) : OutEntry :=
  match o.origin with
  | .engine _ => { o with discarded := true }
  | _ => o

/-- The engine returns to INIT and presents the initialisation burst (R135); in INIT the burst is left as it
is. -/
def reinitEngine (s : State) : State :=
  if s.engine.state = .init then s
  else
    let s' := (s.setEngine Engine.powerOn).setOutstanding (s.outstanding.map OutEntry.discardEngine)
    presentEngine (initBurst s') s'

/-- The assertion of PRST_A or PRST_B, in the order R92 gives (R177, R178). A line that is asserted already
does not assert (R19). While RESET is asserted every block keeps its power-on values (R176). -/
def assertPortReset (p : Port) (s : State) : State :=
  if s.portReset.get p then s
  else if s.resetLine then setPortReset p true s
  else
    let discarded := discardRequests p (setPortReset p true s)
    let faulted := (faultTracking discarded).mapRings RingEntry.flagPeerReset
    let told := raiseDevice (other p) .peerReset faulted
    let unitDown := resetUnit p (clearPortNotices p told)
    if p = s.mgmt then reinitEngine (abandonUnitWait (abandonSeeding unitDown)) else drainTestSeeding unitDown

/-- PORT_RESET_ASSERT. -/
def execPortResetAssert (p : Port) (s : State) : Host.Outcome State Fault Refusal := .next (assertPortReset p s)

/-- PORT_RESET_DEASSERT: the deassertion acts on the port interface alone, whose acceptance reads the line
(R179, R163). -/
def execPortResetDeassert (p : Port) (s : State) : Host.Outcome State Fault Refusal :=
  .next (setPortReset p false s)

end Sys2Proof.Machine
end

