-- ==== Sys2Proof/Machine/TimeBase.lean ====
section
/-! DEFINITION. The time base (R67) and the expiry of held writes (R77). -/

namespace Sys2Proof.Machine

/-- The elapsed time of a hold (R68). -/
def elapsed (s : State) (h : HoldSlot) : Nat := (s.time - h.start).toNat

/-- The write held by port `p` has reached its ring's hold limit (R77). -/
def hasExpired (s : State) (p : Port) : Bool :=
  match s.holds.get p with
  | none => false
  | some h => (s.ring h.ring).body.any fun b => b.desc.holdLimit ≤ elapsed s h

/-- The expiry of port `p`'s held write, when it has reached the limit (R77): it is refused, counted as
HOLD_EXPIRED, and raises HOLD_EXPIRED. -/
def expire (p : Port) (s : State) : State :=
  match s.holds.get p with
  | none => s
  | some h =>
    if hasExpired s p then
      raiseRing h.ring .holdExpired (countViolation h.ring .holdExpired p h.first (refuseHeld p s))
    else s

/-- The count steps up by one and wraps (R67). -/
def tick (s : State) : State := { s with time := s.time + 1 }

/-- A step of the time base: the count steps, then each held write is tested for expiry against the new value
(R67, R77). While RESET is asserted the count does not step. -/
def stepTime (s : State) : State := if s.resetLine then s else expire .b (expire .a (tick s))

/-- TIME_BASE_STEP. -/
def execTimeBaseStep (s : State) : Host.Outcome State Fault Refusal := .next (stepTime s)

/-- HOLD_EXPIRY: the step of the time base at which the write held by port `p` reaches its limit (R77). When
the next step is not that step, it does not happen (log entry 9). -/
def execHoldExpiry (p : Port) (s : State) : Host.Outcome State Fault Refusal :=
  .next (if hasExpired (tick s) p then stepTime s else s)

end Sys2Proof.Machine
end

