-- ==== Sys2Proof/Machine/Dispatch.lean ====
section
/-! DEFINITION. The meaning of every command: one arm for each row of spec/opcode_table.json. -/

namespace Sys2Proof.Machine

/-- The effect of a command on everything but the queue of waiting commands. -/
def exec (i : Instr) (s : State) : Host.Outcome State Fault Refusal :=
  match i with
  | .resetAssert => Sys2Proof.Machine.execResetAssert s
  | .resetRelease ctlBase mgmtSel => Sys2Proof.Machine.execResetRelease ctlBase mgmtSel s
  | .portResetAssert p => Sys2Proof.Machine.execPortResetAssert p s
  | .portResetDeassert p => Sys2Proof.Machine.execPortResetDeassert p s
  | .acceptance p q => Sys2Proof.Machine.execAcceptance p q s
  | .presentation p => Sys2Proof.Machine.execPresentation p s
  | .grant => Sys2Proof.Machine.execGrant s
  | .memoryResponse status data => Sys2Proof.Machine.execMemoryResponse status data s
  | .discardedResponse => Sys2Proof.Machine.execDiscardedResponse s
  | .responseDeparture p => Sys2Proof.Machine.execResponseDeparture p s
  | .seedResponse status word => Sys2Proof.Machine.execSeedResponse status word s
  | .fetchResponse status words => Sys2Proof.Machine.execFetchResponse status words s
  | .reportBurstResponse status => Sys2Proof.Machine.execReportBurstResponse status s
  | .reportTailResponse status => Sys2Proof.Machine.execReportTailResponse status s
  | .initialisationBurstResponse status => Sys2Proof.Machine.execInitialisationBurstResponse status s
  | .haltBurstResponse status => Sys2Proof.Machine.execHaltBurstResponse status s
  | .restartStatusWriteResponse status => Sys2Proof.Machine.execRestartStatusWriteResponse status s
  | .badCommand => Sys2Proof.Machine.execBadCommand s
  | .defineRing => Sys2Proof.Machine.execDefineRing s
  | .releaseRing => Sys2Proof.Machine.execReleaseRing s
  | .armRing => Sys2Proof.Machine.execArmRing s
  | .disarmRing => Sys2Proof.Machine.execDisarmRing s
  | .clearFault => Sys2Proof.Machine.execClearFault s
  | .setMarks => Sys2Proof.Machine.execSetMarks s
  | .setGuard => Sys2Proof.Machine.execSetGuard s
  | .setNotify => Sys2Proof.Machine.execSetNotify s
  | .queryRing => Sys2Proof.Machine.execQueryRing s
  | .resetCounts => Sys2Proof.Machine.execResetCounts s
  | .setupNotice => Sys2Proof.Machine.execSetupNotice s
  | .noticeOff => Sys2Proof.Machine.execNoticeOff s
  | .resetTable => Sys2Proof.Machine.execResetTable s
  | .setupJob => Sys2Proof.Machine.execSetupJob s
  | .setupWriteResponse status => Sys2Proof.Machine.execSetupWriteResponse status s
  | .recordTaking => Sys2Proof.Machine.execRecordTaking s
  | .recordBurstResponse status => Sys2Proof.Machine.execRecordBurstResponse status s
  | .noticeHeadWriteResponse status => Sys2Proof.Machine.execNoticeHeadWriteResponse status s
  | .timeBaseStep => Sys2Proof.Machine.execTimeBaseStep s
  | .holdExpiry p => Sys2Proof.Machine.execHoldExpiry p s

end Sys2Proof.Machine
end

