-- ==== Sys2Proof/Safety.lean ====
section
/-! DEFINITION. What the manual says never happens, as predicates on the state: the invariants the statements
are about. Each clause cites the sentence it comes from; a clause marked "kept for" is what makes the
predicate survive every single step, and is itself a consequence of the rule it cites. -/

namespace Sys2Proof.Machine

/-- Something holds for both ports. -/
abbrev bothPorts (f : Port → Prop) : Prop := f .a ∧ f .b

/-! ### RESET (R176) -/

/-- While RESET is asserted every block holds its power-on values (R176). -/
abbrev ResetHolds (s : State) : Prop := s.resetLine = true → assertReset s = s

/-! ### Bounded lists and the arbiter's order -/

/-- Each in-flight list and the outstanding list hold at most 8 entries (R162, R174). -/
abbrev ListsBounded (s : State) : Prop :=
  (bothPorts fun p => (s.inFlight p).length ≤ 8) ∧ s.outstanding.length ≤ 8

/-- The priority order names each of the four requesters once (R172). -/
abbrev OrderComplete (s : State) : Prop := s.order.Perm powerOnOrder

/-! ### Pending sets and notice queues (R9, R94) -/

/-- A source is in a port's queue exactly when its pending set for that port is non-empty, and appears once
(R94); the set of a ring for a port other than its notify port is empty (R9), and both sets of a FREE ring
are (R11, R17). -/
abbrev NoticesAgree (s : State) : Prop :=
  (bothPorts fun p =>
    (s.queues.get p).Nodup ∧
      (∀ r : RingId, .ring r ∈ s.queues.get p ↔ (s.ring r).pend.get p ≠ 0) ∧
      (.device ∈ s.queues.get p ↔ s.device.get p ≠ 0) ∧
      ∀ r : RingId, (s.ring r).pend.get p ≠ 0 → ∃ b ∈ (s.ring r).body, b.desc.notify = p)

/-! ### At most one request between presentation and grant (R164) -/

/-- The entry waits between presentation and grant: STALLED, ELIGIBLE or HELD. -/
def InFlight.isWaiting (e : InFlight) : Bool := e.isStalled || e.isEligible || e.isHeld

/-- Each port has at most one request between presentation and grant (R164), and a HELD one carries no
mark (R165: the marks go with forwarded requests). -/
abbrev OneWaiting (s : State) : Prop :=
  bothPorts fun p =>
    ((s.inFlight p).filter InFlight.isWaiting).length ≤ 1 ∧
      ∀ e ∈ s.inFlight p, e.isHeld = true → e.mark = none

/-! ### Order of answers (R166, R174) -/

/-- Where an entry stands on its way: granted or answered by the part, waiting, or not yet presented. -/
def InFlight.rank (e : InFlight) : Nat := if e.isQueued then 2 else if e.isWaiting then 1 else 0

/-- The entry has stage GRANTED. -/
def InFlight.isGranted (e : InFlight) : Bool := e.stage == .granted

/-- The serial of an outstanding entry that a response to port `p` answers. -/
def OutEntry.awaited? (p : Port) (o : OutEntry) : Option Nat :=
  match o.origin with
  | .port q n _ _ => if q = p && !o.discarded then some n else none
  | _ => none

/-- A port's requests go to memory and are answered by it in acceptance order (R166, R174): in the in-flight
list those granted or answered stand before the waiting one, and that before the QUEUED ones; the entries
the outstanding list awaits for the port are its GRANTED entries, in the same order. -/
abbrev AnswersInOrder (s : State) : Prop :=
  OneWaiting s ∧
    bothPorts fun p =>
      ((s.inFlight p).map InFlight.rank).Pairwise (· ≤ ·) ∧
        ((s.inFlight p).map (·.serial)).Pairwise (· < ·) ∧
        (∀ e ∈ s.inFlight p, e.serial < (s.ports.get p).nextSerial) ∧
        ((s.inFlight p).filter InFlight.isGranted).map (·.serial) = s.outstanding.filterMap (OutEntry.awaited? p)

/-! ### Seeding (R13) -/

/-- At most one ring is SEEDING, and a ring is SEEDING only while the engine waits for its seeding (R13). -/
abbrev SeedingWaits (s : State) : Prop :=
  ∀ r : RingId, (s.ring r).isSeeding = true → s.engine.state = .waiting (.seeding r)

/-! ### Tracking records and held writes (R5, R69, R70) -/

/-- The written index of a single-word write. -/
def writtenIndex (x : Access) : Option Index := (singleWrite x).map fun w => lowHalf w.data

/-- The access writes one word, whose index satisfies `f`. -/
def writesIndex (x : Access) (f : Index → Bool) : Bool := (writtenIndex x).any f

/-- The ELIGIBLE entry of port `p`, if there is one, satisfies `f`. -/
abbrev eligibleMeets (s : State) (p : Port) (f : InFlight → Prop) : Prop := ∀ e ∈ eligibleEntry s p, f e

/-- The entry carries a pending apply for index word `w` of ring `r`. -/
def InFlight.marks (e : InFlight) (r : RingId) (w : IndexWord) : Bool := e.mark == some (.ringIndex r w)

/-- The advance a marked index write makes stays within its bound: the free slots for a head, the fill for a
tail, and it comes from the word's owner (R26 to R28; kept for R5). -/
abbrev AdvanceFits (d : Descriptor) (head tail : Index) (p : Port) (r : RingId) (e : InFlight) : Prop :=
  (e.marks r .head = true →
    p = d.producer ∧
      writesIndex e.request.access (fun v => distance v head ≤ d.slotCount - distance head tail) = true) ∧
    (e.marks r .tail = true →
      p = other d.producer ∧ writesIndex e.request.access (fun v => distance v tail ≤ distance head tail) = true)

/-- A ring in this phase, if TRACKING, has a fill of at most N, and waiting marked writes that fit (R5, R27,
R28). -/
def trackedFits (s : State) (r : RingId) (b : RingBody) : Bool :=
  match b.phase with
  | .tracking head tail =>
    decide (distance head tail ≤ b.desc.slotCount ∧
      bothPorts fun p => eligibleMeets s p fun e => AdvanceFits b.desc head tail p r e)
  | _ => true

/-- A marked index write of the ring comes from the word's owner (R26; kept for R5). -/
abbrev MarkedByOwner (d : Descriptor) (p : Port) (r : RingId) (e : InFlight) : Prop :=
  (e.marks r .head = true → p = d.producer) ∧ (e.marks r .tail = true → p = other d.producer)

/-- A ring in this phase, if SEEDING in step READING, has no marked index write ELIGIBLE (R40; kept for R5); if
SEEDING for CLEAR_FAULT, its marked writes are their owners', as they were in FAULTED (R34, R147; kept for R5). -/
def seedingDrained (s : State) (r : RingId) (b : RingBody) : Bool :=
  match b.phase with
  | .seeding rec =>
    (rec.step != .reading ||
      decide (bothPorts fun p => eligibleMeets s p fun e => e.marks r .head = false ∧ e.marks r .tail = false)) &&
      match rec.purpose with
      | .arm => true
      | .clearFault _ => decide (bothPorts fun p => eligibleMeets s p fun e => MarkedByOwner b.desc p r e)
  | _ => true

/-- A ring in this phase, if FAULTED, has an observation only of an index word of which no marked write is
ELIGIBLE, and a marked write comes from the word's owner (R34; kept for R5). -/
def observationsFresh (s : State) (r : RingId) (b : RingBody) : Bool :=
  match b.phase with
  | .faulted _ oh ot =>
    decide (bothPorts fun p => eligibleMeets s p fun e =>
      (e.marks r .head = true → p = b.desc.producer ∧ oh = none) ∧
        (e.marks r .tail = true → p = other b.desc.producer ∧ ot = none))
  | _ => true

/-- What R5 says of one ring, with what keeps it. -/
abbrev RingTracked (s : State) (r : RingId) : Prop :=
  ∀ b ∈ (s.ring r).body,
    b.desc.slotCount ≤ 32768 ∧ trackedFits s r b = true ∧ seedingDrained s r b = true ∧
      observationsFresh s r b = true

/-- An entry marked for a ring's index word has that word's class (R32). -/
abbrev MarksNameClass (s : State) : Prop :=
  bothPorts fun p => eligibleMeets s p fun e =>
    ∀ r : RingId,
      (e.marks r .head = true → e.cls = some (.headWord r)) ∧ (e.marks r .tail = true → e.cls = some (.tailWord r))

/-- For every TRACKING ring, (head − tail) mod 65,536 never exceeds N (R5), with the clauses that keep it. -/
abbrev TrackingSound (s : State) : Prop :=
  OneWaiting s ∧ MarksNameClass s ∧ ∀ r : RingId, RingTracked s r

/-- The two ports never hold at the same time (R69). -/
abbrev OneHold (s : State) : Prop := s.holds.a = none ∨ s.holds.b = none

/-- A slot the write touches is occupied (R70). -/
def HoldSlot.touchesOccupied (h : HoldSlot) (b : RingBody) : Bool :=
  match b.phase with
  | .tracking head tail => h.slots.any fun k => slotOccupied b.desc.slotCount head tail k
  | _ => false

/-- While a write is held, its ring is TRACKING in guard mode HOLD, and at least one slot the write touches is
occupied (R70); the holding port is the ring's producer; a port has a HELD entry exactly while its hold slot
is HOLDING (R69). Kept for it: memory answers GRANTED entries alone (R174, R175). -/
abbrev HoldSound (s : State) : Prop :=
  AnswersInOrder s ∧ TrackingSound s ∧ OneHold s ∧
    bothPorts fun p =>
      ((s.inFlight p).any InFlight.isHeld = (s.holds.get p).isSome) ∧
        ∀ h ∈ s.holds.get p,
          ∃ b ∈ (s.ring h.ring).body,
            h.touchesOccupied b = true ∧ b.desc.guardMode = .hold ∧ b.desc.producer = p

/-- The ring of an outstanding port write that carries an applied mark; absent for every other entry. -/
def OutEntry.applied? (o : OutEntry) : Option (Option RingId) :=
  match o.origin with
  | .port _ _ ring true => some ring
  | _ => none

/-- An applied mark stands only on an outstanding write of a TRACKING ring (R36). -/
abbrev AppliedTracked (s : State) : Prop :=
  ∀ o ∈ s.outstanding, ∀ ring ∈ o.applied?, ∃ r ∈ ring, (s.ring r).isTracking = true

/-! ### Notice rings (R112) -/

/-- The unit has a record in flight. -/
def NoticeUnit.hasRecord (u : NoticeUnit) : Bool :=
  match u.phase with
  | .ready (some _) _ => true
  | _ => false

/-- For every RUNNING or HALTED unit the fill never exceeds M, and a record in flight has a free slot
(R112); a waiting marked tail write stays within the fill (R113; kept for R112). -/
abbrev NoticeSound (s : State) : Prop :=
  OneWaiting s ∧
    bothPorts fun p =>
      ∀ u ∈ s.units.get p,
        u.slotCount ≤ 1024 ∧ u.fill ≤ u.slotCount ∧ (u.hasRecord = true → u.fill < u.slotCount) ∧
          eligibleMeets s p fun e =>
            e.mark = some .noticeTail →
              writesIndex e.request.access (fun v => distance v u.tail ≤ u.fill) = true

/-! ### The command ring (R124) -/

/-- A fetch or a command is in progress. -/
def EngineState.inProgress : EngineState → Bool
  | .fetching => true
  | .executing => true
  | .waiting _ => true
  | _ => false

/-- The engine executes a command or waits for its timed part. -/
def EngineState.hasCommand : EngineState → Bool
  | .executing => true
  | .waiting _ => true
  | _ => false

/-- The engine's (head − tail) mod 65,536 never exceeds 32 (R124). Kept for it: a command in progress is the
one at the tail with the head beyond it (R127); a report kept is of that command or of the one before the
tail (R131, R132); a waiting marked head write is the managing port's and within its bounds (R123), and the
managing port changes at RESET alone (R120); in INIT there is no report and the managing port has no request
(R124, R135, R163). -/
abbrev EngineSound (s : State) : Prop :=
  OneWaiting s ∧ ResetHolds s ∧
    distance s.engine.head s.engine.tail ≤ 32 ∧
    (s.engine.state = .init → s.engine.report = none ∧ s.inFlight s.mgmt = []) ∧
    (s.engine.state.inProgress = true → s.engine.head ≠ s.engine.tail) ∧
    (s.engine.state.hasCommand = true → ∀ c ∈ s.engine.current, c.index = s.engine.tail) ∧
    (∀ r ∈ s.engine.report,
      r.index + 1 = s.engine.tail ∨ (r.index = s.engine.tail ∧ s.engine.head ≠ s.engine.tail)) ∧
    bothPorts fun p => eligibleMeets s p fun e =>
      e.mark = some .commandHead →
        p = s.mgmt ∧
        writesIndex e.request.access (fun v =>
          distance v s.engine.head ≤ distance v s.engine.tail && distance v s.engine.tail ≤ 32) = true

/-! ### Descriptors and regions (R4, R21) -/

/-- The field conditions of R4 that a stored descriptor can still meet or fail. -/
abbrev Descriptor.FieldsOk (d : Descriptor) : Prop :=
  d.slotSize ∈ [1, 2, 4, 8, 16, 32, 64] ∧ (∃ e ∈ List.range 16, 1 ≤ e ∧ d.slotCount = 2 ^ e) ∧
    d.dataBase.toNat % (d.slotSize * 4) = 0 ∧
    d.dataBase.toNat + d.slotCount * d.slotSize * 4 ≤ 2 ^ 32 ∧
    d.headAddr.toNat % 4 = 0 ∧ d.tailAddr.toNat % 4 = 0 ∧ 1 ≤ d.holdLimit ∧ d.holdLimit ≤ 65535

/-- The lists of regions reserved by each owner (R20). -/
def reservations (s : State) : List (List Region) :=
  ringIds.map (ringReserved s) ++ [[windowRegion s], unitReserved s .a, unitReserved s .b]

/-- No region of one list overlaps another region of the list. -/
abbrev PairwiseApart (l : List Region) : Prop := l.Pairwise fun g h => g.overlaps h = false

/-- Every entry that is not FREE holds a well-formed descriptor (R4), and the regions of all non-FREE rings,
the control window and the notice units that are not OFF never overlap one another (R21). While RESET is
asserted nothing but the window's own place is reserved (R176; kept for R21: the window moves at the
release). -/
abbrev RegionsSound (s : State) : Prop :=
  (∀ r : RingId, ∀ b ∈ (s.ring r).body, b.desc.FieldsOk) ∧
    PairwiseApart (reservations s).flatten ∧
    (s.resetLine = true →
      (∀ r : RingId, (s.ring r).body = none) ∧ s.units.a = none ∧ s.units.b = none ∧ s.engine.state = .init)

end Sys2Proof.Machine
end

