-- ==== Sys2Proof/Vocabulary.lean ====
section
/-! DEFINITION. The words the statements are written in: what a fetched command says (10.4), what the part
writes for it, how an in-flight list is cut at one entry, and the manual's checks spelled in plain numbers,
apart from the meanings that make them. -/

namespace Sys2Proof.Machine

/-! ### Codes in numbers (10.1, 10.3, R181) -/

/-- A port field: 0 for port A, 1 for port B (R181). -/
def portNumber : Port → Nat
  | .a => 0
  | .b => 1

/-- The violation codes (10.1). -/
def violationNumber : ViolationKind → Nat
  | .overwrite => 1
  | .staleRead => 2
  | .wrongSide => 3
  | .headJump => 4
  | .tailJump => 5
  | .indexForm => 6
  | .wrongOwner => 7
  | .crossing => 8
  | .holdConflict => 9
  | .holdExpired => 10

/-- The fault kind codes: INDEX 1, PEER_RESET 2, MEMORY_ERROR 3 (10.1). -/
def faultNumber : FaultCause → Nat
  | .index _ _ _ _ => 1
  | .peerReset => 2
  | .memoryError _ _ => 3

/-- The status codes (10.1). -/
def statusNumber : CommandStatus → Nat
  | .ok => 1
  | .badCommand => 2
  | .badRing => 3
  | .wrongState => 4
  | .badField => 5
  | .overlap => 6
  | .seedInvalid => 7
  | .memoryError => 8
  | .peerReset => 9

/-- The halt causes: FETCH_ERROR 1, REPORT_ERROR 2 (10.3, R183). -/
def haltNumber : HaltCause → Nat
  | .fetchError => 1
  | .reportError => 2

/-- The guard mode coding (10.1). -/
def guardNumber : GuardMode → Nat
  | .observe => 0
  | .refuse => 1
  | .hold => 2

/-- The recovery coding (10.1). -/
def recoveryNumber : Recovery → Nat
  | .manual => 0
  | .quiesce => 1

/-- The bit of a ring kind in a kind set (10.1). -/
def kindBit : RingKind → Nat
  | .fillHigh => 0
  | .fillLow => 1
  | .violation => 2
  | .fault => 3
  | .recovered => 4
  | .holdExpired => 5

/-! ### The engine's command and report (R129, R131, R133, R184) -/

/-- The engine is EXECUTING command `c`, whose code and operand bytes are these (R184). -/
abbrev Executes (s : State) (code operand : Nat) (c : CurrentCommand) : Prop :=
  s.engine.state = .executing ∧ s.engine.current = some c ∧
    (c.words.w0.extractLsb' 0 8).toNat = code ∧ (c.words.w0.extractLsb' 8 8).toNat = operand

/-- A write by the part: every byte enabled. -/
def fullWrite (addr : Word) (words : List Word) : Access :=
  { addr := addr, transfer := .write (words.map fun w => { data := w, enables := 15#4 }) }

/-- The engine in REPORTING with the report of command `c` formed and its burst presented: seven words to
window base + 20 + 32 × (t mod 32) (R129, R131). -/
def reporting (s : State) (c : CurrentCommand) (status : CommandStatus) (words : Params) : Engine :=
  { s.engine with
    state := .reporting
    report := some { index := c.index, status := status, words := words }
    phase := some .burst
    requests := s.engine.requests ++
      [{ kind := .reportBurst
         access := fullWrite (windowBase s + BitVec.ofNat 32 (20 + 32 * (c.index.toNat % 32)))
           [BitVec.ofNat 32 (statusNumber status), words.w2, words.w3, words.w4, words.w5, words.w6, words.w7] }] }

/-- The engine WAITING for the timed part of its command (R129). -/
def waitingFor (s : State) (w : EngineWait) (more : List EngineRequest) : Engine :=
  { s.engine with state := .waiting w, requests := s.engine.requests ++ more }

/-- What settling a wait does to the engine: a report of the current command (R130). -/
def settled (s : State) (w : EngineWait) (status : CommandStatus) (words : Params) : Engine :=
  if s.engine.state = .waiting w then
    match s.engine.current with
    | some c => reporting s c status words
    | none => s.engine
  else s.engine

/-- The halt burst: engine status HALTED with cause and slot, and the halt address, to words 2 and 3 (R133,
R183). -/
def haltWrite (s : State) (info : HaltInfo) : EngineRequest :=
  { kind := .haltBurst
    access := fullWrite (windowBase s + 8)
      [BitVec.ofNat 32 (1 + 256 * haltNumber info.cause + 65536 * info.slot.val), info.address] }

/-- A HALTED engine, entered from `s` (R132, R133): a fetch not yet granted is withdrawn, and the halt burst
presented. -/
def haltedEngine (s : State) (info : HaltInfo) : Engine :=
  { s.engine with
    state := .halted info
    phase := none
    requests := (s.engine.requests.filter fun q => q.kind != .fetch) ++ [haltWrite s info] }

/-! ### The checks of the command ring (R137, R138) -/

/-- The commands whose operand is a ring, by code (R138). -/
def ringCommands : List (Nat × Instr) :=
  [(1, .defineRing), (2, .releaseRing), (3, .armRing), (4, .disarmRing), (5, .clearFault), (6, .setMarks),
    (7, .setGuard), (8, .setNotify), (9, .queryRing), (10, .resetCounts)]

/-- The ring states each of them is allowed in, as state codes (08, the table of commands). -/
def allowedStates : List (Nat × List Nat) :=
  [(1, [0, 1]), (2, [1]), (3, [1]), (4, [3, 4]), (5, [4]), (6, [1, 3, 4]), (7, [1, 3, 4]), (8, [1, 3, 4]),
    (9, [0, 1, 2, 3, 4]), (10, [1, 3, 4])]

/-! ### In-flight lists cut at an entry (R162, R164) -/

/-- Port `p` presents `e`, its oldest QUEUED request (R164). -/
abbrev Presents (s : State) (p : Port) (before : List InFlight) (e : InFlight) (after : List InFlight) : Prop :=
  s.portReset.get p = false ∧ s.inFlight p = before ++ e :: after ∧ e.stage = .queued ∧
    (∀ x ∈ before, x.isQueued = false) ∧ (∀ x ∈ before ++ after, x.isWaiting = false)

/-- The entry after its presentation (R165). -/
def InFlight.presented (e : InFlight) (stage : Stage) (cls : Option AccessClass) (mark : Option ApplyMark) :
    InFlight :=
  { e with stage := stage, cls := cls, mark := mark }

/-- DONE with a REFUSED response: a READ gets one zero word for each word it asked for (R53). -/
def refusedStage (x : Access) : Stage :=
  .done .refused
    (match x.transfer with
    | .read n => List.replicate n 0#32
    | .write _ => [])

/-- The next grant is port `p`'s, of its ELIGIBLE entry `e` (R172). -/
abbrev GrantsPort (s : State) (p : Port) (before : List InFlight) (e : InFlight) (after : List InFlight) : Prop :=
  nextGrant s = some (.port p) ∧ s.inFlight p = before ++ e :: after ∧ e.stage = .eligible ∧
    ∀ x ∈ before, x.isEligible = false

/-- The list of port `p` with the entry granted. -/
def grantedEntry (s : State) (p : Port) (before : List InFlight) (e : InFlight) (after : List InFlight) : State :=
  s.setInFlight p (before ++ { e with stage := .granted } :: after)

/-- The request handed to the memory port: the requester drops to the lowest place, the outstanding list and the
memory bus receive the request (R172, R174). -/
def handed (s : State) (q : Requester) (origin : Origin) (x : Access) : State :=
  { s with
    order := s.order.erase q ++ [q]
    outstanding := s.outstanding ++ [{ origin := origin, discarded := false }]
    memoryBus := s.memoryBus ++ [x] }

/-- The request a requester has at the arbiter (R171). -/
def requestAt (s : State) : Requester → Option Access
  | .port p => ((s.inFlight p).find? fun e => e.stage == .eligible).map fun e => e.request.access
  | .engine => s.engine.requests.head?.map fun q => q.access
  | .notice =>
    match s.requester.job with
    | some j => if j.waiting then some j.access else none
    | none => none

/-! ### The manual's checks in plain numbers -/

/-- `(x - y) mod 65,536` of two indices. -/
def ahead (x y : Nat) : Nat := (x + 65536 - y) % 65536

/-- What R25 to R29 charge an index write with, if anything. -/
def indexVerdict (d : Descriptor) (head tail : Index) (w : IndexWord) (p : Port) (x : WriteWord) :
    Option ViolationKind :=
  let v := x.data.toNat % 65536
  let fill := ahead head.toNat tail.toNat
  if x.enables ≠ 15#4 ∨ 65536 ≤ x.data.toNat then some .indexForm
  else
    match w with
    | .head =>
      if p ≠ d.producer then some .wrongOwner
      else if ahead v head.toNat ≤ d.slotCount - fill then none
      else some .headJump
    | .tail =>
      if p = d.producer then some .wrongOwner
      else if ahead v tail.toNat ≤ fill then none
      else some .tailJump

/-- Slot `k` is occupied: `(k - tail) mod N` is less than the fill (R2), in the integers. -/
def isOccupied (d : Descriptor) (head tail : Index) (k : Nat) : Bool :=
  ((k : Int) - tail.toNat) % d.slotCount < ahead head.toNat tail.toNat

/-- The table of R47 for one slot, with the writeback permission of R48. -/
def slotVerdict (d : Descriptor) (p : Port) (write occupied : Bool) : Option ViolationKind :=
  match decide (p = d.producer), write, occupied with
  | true, true, true => some .overwrite
  | true, _, _ => none
  | false, false, true => none
  | false, false, false => some .staleRead
  | false, true, true => if d.writeback then none else some .wrongSide
  | false, true, false => some .wrongSide

/-- The slot the word at byte address `a` belongs to (R1). -/
def slotAt (d : Descriptor) (a : Nat) : Nat := (a - d.dataBase.toNat) / (4 * d.slotSize)

/-- What the occupancy rule charges a data-area access with: the kind of the first covered word whose slot fails
(R47, R49). -/
def occupancyVerdict (d : Descriptor) (head tail : Index) (p : Port) (x : Access) : Option ViolationKind :=
  (coveredWords x).findSome? fun a => slotVerdict d p (isWrite x) (isOccupied d head tail (slotAt d a))

/-- The written value as R7 records it: each byte not enabled is zero. -/
def recordedValue (x : WriteWord) : Word :=
  x.data &&& ((if x.enables.getLsbD 0 then 0x000000FF#32 else 0) ||| (if x.enables.getLsbD 1 then 0x0000FF00#32 else 0) |||
    (if x.enables.getLsbD 2 then 0x00FF0000#32 else 0) ||| (if x.enables.getLsbD 3 then 0xFF000000#32 else 0))

/-- The bounds and form of a command head write (R123). -/
def headVerdict (s : State) (x : WriteWord) : Bool :=
  let v := x.data.toNat % 65536
  decide (x.enables = 15#4 ∧ x.data.toNat < 65536 ∧
    ahead v s.engine.head.toNat ≤ ahead v s.engine.tail.toNat ∧ ahead v s.engine.tail.toNat ≤ 32)

/-- The form and advance of a notice tail write (R113). -/
def tailVerdict (u : NoticeUnit) (x : WriteWord) : Bool :=
  decide (x.enables = 15#4 ∧ x.data.toNat < 65536 ∧
    ahead (x.data.toNat % 65536) u.tail.toNat ≤ ahead u.head.toNat u.tail.toNat)

/-- The low 16 bits of a written word: an index. -/
def indexOf (x : WriteWord) : Index := x.data.extractLsb' 0 16

/-! ### The region map (R20, R169) -/

/-- The mapped region of ring `r` that word `a` lies in belongs to a ring whose entry satisfies `f`. -/
def liesInRing (s : State) (f : RingEntry → Bool) (a : Nat) : Bool :=
  match regionAt s a with
  | some (.ringData r) => f (s.ring r)
  | some (.ringIndex r _) => f (s.ring r)
  | _ => false

/-- The word lies in the control window or a notice region. -/
def liesProtected (s : State) (a : Nat) : Bool :=
  match regionAt s a with
  | some .window => true
  | some (.noticeData _) => true
  | some (.noticeHead _) => true
  | some (.noticeTail _) => true
  | _ => false

/-- The reserved regions of every owner but ring `r` (R141). -/
def reservedByOthers (s : State) (r : RingId) : List Region :=
  windowRegion s :: ((ringIds.filter (· != r)).flatMap (ringReserved s) ++ (unitReserved s .a ++ unitReserved s .b))

/-- The reserved regions of every owner but port `p`'s unit (R105). -/
def reservedByOtherUnits (s : State) (p : Port) : List Region :=
  windowRegion s :: (ringIds.flatMap (ringReserved s) ++ unitReserved s (other p))

/-- The regions lie apart from one another and from the reserved ones (R4, R105). -/
abbrev LiesApart (regions reserved : List Region) : Prop :=
  PairwiseApart regions ∧ ∀ g ∈ regions, ∀ h ∈ reserved, g.overlaps h = false

/-! ### Parameters written out (10.4) -/

/-- DEFINE_RING's parameter words for a descriptor: the encoder of the slot's words 2 to 7 (R140, 10.4). Which bits
of words 5 and 6 are byte 0 to byte 3 is the model's choice (PRESUMED, log entry 26). -/
def descriptorParams (d : Descriptor) : Params :=
  { w2 := d.dataBase
    w3 := d.headAddr
    w4 := d.tailAddr
    w5 := BitVec.ofNat 32
      (Nat.log2 d.slotSize + 256 * Nat.log2 d.slotCount + 65536 * portNumber d.producer +
        16777216 * portNumber d.notify)
    w6 := BitVec.ofNat 32
      (guardNumber d.guardMode + 256 * recoveryNumber d.recovery + 65536 * (if d.writeback then 1 else 0) +
        16777216 * d.mask.toNat)
    w7 := BitVec.ofNat 32 d.holdLimit }

/-- SETUP_NOTICE's parameter fields meet the field conditions of R105 (R156). -/
abbrev GeometryOk (w : Params) : Prop :=
  w.w2.toNat % 32 = 0 ∧ (2 ≤ w.w3.toNat ∧ w.w3.toNat ≤ 10) ∧ w.w2.toNat + 2 ^ w.w3.toNat * 32 ≤ 2 ^ 32 ∧
    w.w4.toNat % 4 = 0 ∧ w.w5.toNat % 4 = 0

/-- The unit SETUP_NOTICE's parameters describe, in step SETTING_UP (R106). -/
def unitOf (w : Params) : NoticeUnit :=
  { base := w.w2, slotCount := 2 ^ w.w3.toNat, headAddr := w.w4, tailAddr := w.w5, head := 0, tail := 0, seq := 0,
    phase := .settingUp }

/-- SET_MARKS' fields meet R148 for slot count `n`. -/
abbrev MarksOk (n : Nat) (w : Params) : Prop :=
  (w.w2.toNat = 0 ∨ w.w2.toNat = 1 ∧ 1 ≤ w.w3.toNat ∧ w.w3.toNat ≤ n) ∧
    (w.w4.toNat = 0 ∨ w.w4.toNat = 1 ∧ w.w5.toNat ≤ n - 1) ∧
    (w.w2.toNat = 1 → w.w4.toNat = 1 → w.w5.toNat < w.w3.toNat)

/-- A mark as SET_MARKS' flag and value give it. -/
def markOf (flag value : Word) : Option Nat := if flag.toNat = 1 then some value.toNat else none

/-! ### The ring after an event -/

/-- The entry of ring `r` with a violation counted (R22, R23). -/
def countedEntry (s : State) (r : RingId) (k : ViolationKind) (p : Port) (addr : Word) : RingEntry :=
  { s.ring r with
    count := BitVec.ofNat 16 (min ((s.ring r).count.toNat + 1) 65535)
    last := some { kind := k, port := p, address := addr, time := s.time } }

/-- The entry of ring `r` with its body replaced. -/
def bodyEntry (s : State) (r : RingId) (b : RingBody) : RingEntry := { s.ring r with body := some b }

/-- The state of a ring as a snapshot codes it: 0 FREE to 4 FAULTED (10.1). -/
def stateNumber (e : RingEntry) : Nat :=
  match e.body with
  | none => 0
  | some b =>
    match b.phase with
    | .defined => 1
    | .seeding _ => 2
    | .tracking _ _ => 3
    | .faulted _ _ _ => 4

/-- Every record in flight taken from a ring of `f` is marked cleared (R96, R99). -/
def forgetRecords (f : Source → Bool) (s : State) : State :=
  mapRecords (fun rec => if f rec.source then { rec with cleared := true } else rec) s

end Sys2Proof.Machine
end

