-- ==== Sys2Proof/Certificates/Slice0/Obligations.lean ====
section
/-! DEFINITION. The statements for the provers, from the manual's numbered rules. Each `exec c s = .next t` also
says what the command leaves alone: `t` is `s` with the fields written out changed and no other. -/

open Sys2Proof Sys2Proof.Machine

/-! ### Steps and the queue of commands -/

/-- A step runs the command at the front of the queue on the queue's rest; on an empty queue the block idles,
which is the model's choice (log entry 2). -/
def Obligations.StepTakesFrontCommand : Prop :=
  (∀ (c : Instr) (rest : List Instr) (s : State), s.pending = c :: rest →
    step s = exec c { s with pending := rest }) ∧
  ∀ s : State, s.pending = [] → step s = .next s

/-- No command faults or is refused, and none touches the queue of waiting commands. That every happening ends
in a next state is the model's choice where the happening cannot occur (log entry 1). -/
def Obligations.EveryCommandAnswers : Prop :=
  ∀ (c : Instr) (s : State), ∃ t, exec c s = .next t ∧ t.pending = s.pending

/-! ### Reset lines (R176 to R179) -/

/-- RESET asserts: every block takes its power-on values in one step (R176, R10, R67, R69, R94, R103, R125,
R162, R174). RESET releases: the straps are sampled, the arbiter's order is PORT_A, PORT_B, ENGINE, NOTICE, and
the initialisation burst is presented (R176, R120, R126). A port reset line releases: its level alone changes
(R179). That RESET leaves the levels of the port reset lines as they are is the model's reading (log entry 5). -/
def Obligations.ResetLinesAct : Prop :=
  (∀ s : State, ∃ t, exec .resetAssert s = .next t ∧
    t.resetLine = true ∧ t.portReset = s.portReset ∧ t.time = 0 ∧
    (∀ r, t.ring r = { body := none, count := 0, last := none, pend := ⟨0, 0⟩ }) ∧
    t.holds = ⟨none, none⟩ ∧ t.device = ⟨0, 0⟩ ∧ t.queues = ⟨[], []⟩ ∧ t.units = ⟨none, none⟩ ∧
    t.requester.lastServed = .b ∧ t.requester.job = none ∧
    t.engine = { state := .init, head := 0, tail := 0, current := none, report := none, phase := none, requests := [] } ∧
    (∀ p, t.inFlight p = []) ∧ t.outstanding = [] ∧ t.windowMapped = false) ∧
  (∀ (ctlBase : BitVec 21) (mgmtSel : Port) (s : State), s.resetLine = true →
    exec (.resetRelease ctlBase mgmtSel) s = .next
      { s with
        resetLine := false
        ctlBase := ctlBase
        mgmt := mgmtSel
        order := [.port .a, .port .b, .engine, .notice]
        engine := { s.engine with
          requests := s.engine.requests ++
            [{ kind := .initBurst, access := fullWrite (BitVec.ofNat 32 (2048 * ctlBase.toNat)) [0, 0, 0, 0] }] } }) ∧
  ∀ (p : Port) (s : State),
    exec (.portResetDeassert p) s = .next { s with portReset := s.portReset.set p false }

/-- PRST_A or PRST_B asserts: the port's requests in every stage are discarded and memory owes the port no
answer (R177); every TRACKING ring faults with PEER_RESET, FREE, DEFINED and FAULTED rings keep their bodies, and
every ring its count and last violation (R19, R56, R57). The rings' clauses leave out a SEEDING ring. The other port's
interface stays as it is (R177) but for what ends with the faults: a write it holds becomes ELIGIBLE and its slot
EMPTY (R58, R83), its stalled request becomes QUEUED when the managing port's reset abandons a seeding (R39, R45), and
its notice tail write loses its mark when that reset ends the setup of its unit (R107, R114). A hold on a ring that is
not TRACKING, which R70 rules out, is left out. -/
def Obligations.PortResetDiscards : Prop :=
  ∀ (p : Port) (s : State), s.portReset.get p = false → s.resetLine = false →
    let q := other p
    let again (e : InFlight) : InFlight :=
      if p = s.mgmt ∧ (∃ r, (s.ring r).isSeeding = true) ∧ e.stage = .stalled then
        { e with stage := .queued, cls := none }
      else e
    let unmarked (e : InFlight) : InFlight :=
      if p = s.mgmt ∧ s.engine.state = .waiting (.setup q) ∧ e.stage = .eligible ∧ e.mark = some .noticeTail then
        { e with mark := none }
      else e
    let goesOn (l : List InFlight) : PortIface := { s.ports.get q with inFlight := (l.map again).map unmarked }
    ∃ t, exec (.portResetAssert p) s = .next t ∧ t.portReset = s.portReset.set p true ∧
      t.inFlight p = [] ∧ t.holds.get p = none ∧
      (s.holds.get q = none → t.holds.get q = none ∧ t.ports.get q = goesOn (s.inFlight q)) ∧
      (∀ (h : HoldSlot) (before after : List InFlight) (e : InFlight), s.holds.get q = some h →
        (s.ring h.ring).isTracking = true → s.inFlight q = before ++ e :: after → e.stage = .held →
        (∀ x ∈ before, x.isHeld = false) →
        t.holds.get q = none ∧ t.ports.get q = goesOn (before ++ { e with stage := .eligible } :: after)) ∧
      t.outstanding.length = s.outstanding.length ∧ t.outstanding.filterMap (OutEntry.awaited? p) = [] ∧
      t.outstanding.filterMap (OutEntry.awaited? q) = s.outstanding.filterMap (OutEntry.awaited? q) ∧
      (∀ r : RingId, (s.ring r).isSeeding = false →
        (t.ring r).body = (s.ring r).body.map fun b =>
          { b with
            phase :=
              match b.phase with
              | .tracking _ _ => .faulted { cause := .peerReset, time := s.time } none none
              | ph => ph }) ∧
      (∀ r : RingId, (t.ring r).count = (s.ring r).count ∧ (t.ring r).last = (s.ring r).last) ∧
      t.time = s.time ∧ t.ctlBase = s.ctlBase ∧ t.mgmt = s.mgmt ∧ t.windowMapped = s.windowMapped ∧
      t.order = s.order ∧ t.memoryBus = s.memoryBus ∧ t.responseBus = s.responseBus

/-- The reset of a port that does not manage, while a ring is SEEDING: the seeding goes on with its peer-reset flag
set, and its draining step may end by the discards (R44, R40); the engine is WAITING still. -/
def Obligations.PortResetFlagsSeeding : Prop :=
  ∀ (p : Port) (s : State) (r : RingId) (b : RingBody) (rec : SeedingRecord),
    s.portReset.get p = false → s.resetLine = false → p ≠ s.mgmt → seedingRing s = some r →
    (s.ring r).body = some b → b.phase = .seeding rec → s.engine.state = .waiting (.seeding r) →
    ∃ t, exec (.portResetAssert p) s = .next t ∧
      (t.ring r).body = some
        { b with
          phase := .seeding
            { rec with
              peerReset := true
              step := if rec.step = .draining ∧ drainBlocked t r b.desc = false then .reading else rec.step } } ∧
      t.engine =
        { s.engine with
          requests := s.engine.requests ++
            if rec.step = .draining ∧ drainBlocked t r b.desc = false then
              [{ kind := .seedRead r .head, access := { addr := b.desc.headAddr, transfer := .read 1 } }]
            else [] }

/-- PRST_A or PRST_B asserts. Toward the other port FAULT is raised for every TRACKING ring that tells it and whose
mask has FAULT, the rings whose set was empty joining its queue in some order among them (a free value, log entry 8),
then PEER_RESET, DEVICE joining behind them when its set was empty (R92, R93). The reset port's queue and pending sets
are empty (R100), its notice unit is OFF with its line deasserted, its job is given up, and the responses of its
granted writes are discarded (R119). A port that does not manage: an engine WAITING for that port's unit reports
PEER_RESET for SETUP_NOTICE (R107, R157) and OK with no failing write for NOTICE_OFF (R108), and any other engine is
left alone, while no ring is SEEDING; the other port's unit is unchanged (R119). The managing port: the other port's
unit goes OFF when it is being set up, and runs on with its closing flag clear when it is closing (R107, R108). -/
def Obligations.PortResetNotices : Prop :=
  ∀ (p : Port) (s : State), s.portReset.get p = false → s.resetLine = false →
    let q := other p
    let tells (r : RingId) : Bool :=
      (s.ring r).isTracking && (s.ring r).body.any fun b => b.desc.notify == q && b.desc.mask.getLsbD 3
    let abandoned (u : Port) : Prop := p = s.mgmt ∧ s.engine.state = .waiting (.setup u)
    ∃ t, exec (.portResetAssert p) s = .next t ∧
      (∀ r, (t.ring r).pend.get q = (s.ring r).pend.get q ||| if tells r then 0b001000#6 else 0) ∧
      t.device.get q = s.device.get q ||| 0b000010#6 ∧
      (∃ joining : List RingId,
        joining.Perm (ringIds.filter fun r => tells r && (s.ring r).pend.get q == 0) ∧
          t.queues.get q =
            s.queues.get q ++ joining.map Source.ring ++ if s.device.get q = 0 then [Source.device] else []) ∧
      (NoticesAgree s → Source.device ∈ t.queues.get q) ∧
      t.device.get p = 0 ∧ t.queues.get p = [] ∧ (∀ r, (t.ring r).pend.get p = 0) ∧
      t.units.get p = none ∧ intLine t p = false ∧
      t.units.get q =
        (if p ≠ s.mgmt then s.units.get q
        else if s.engine.state = .waiting (.setup q) then none
        else if s.engine.state = .waiting (.noticeOff q) then
          (s.units.get q).map fun u =>
            { u with
              phase :=
                match u.phase with
                | .ready rec _ => .ready rec false
                | ph => ph }
        else s.units.get q) ∧
      t.requester.lastServed = s.requester.lastServed ∧
      (∀ j, t.requester.job = some j ↔ s.requester.job = some j ∧ j.unit ≠ p ∧ ¬abandoned j.unit) ∧
      (∀ o ∈ t.outstanding, ∀ u w, o.origin = .notice u w → u = p ∨ abandoned u → o.discarded = true) ∧
      (p ≠ s.mgmt → (∀ r, (s.ring r).isSeeding = false) →
        (∀ c, s.engine.current = some c →
          (s.engine.state = .waiting (.setup p) → t.engine = reporting s c .peerReset c.words.params) ∧
          (s.engine.state = .waiting (.noticeOff p) → t.engine = reporting s c .ok ⟨0, 0, 0, 0, 0, 0⟩)) ∧
        (s.engine.state ≠ .waiting (.setup p) → s.engine.state ≠ .waiting (.noticeOff p) → t.engine = s.engine)) ∧
      (p = s.mgmt → s.engine.state = .init → t.engine = s.engine)

/-- The managing port resets: the engine returns to INIT, head and tail are 0, its command, report and halt
fields are gone, its accesses not yet granted are withdrawn and the granted ones discarded, and the
initialisation burst is presented (R135). A seeding for ARM returns its ring to DEFINED, one for CLEAR_FAULT to
FAULTED with the set-aside record of kind PEER_RESET and its earlier time, and stalled requests wait to be
presented anew (R45, R39). A unit being set up goes OFF, a closing unit of the other port runs on (R107, R108). -/
def Obligations.ManagingResetReinitialises : Prop :=
  ∀ s : State, s.portReset.get s.mgmt = false → s.resetLine = false → s.engine.state ≠ .init →
    ∃ t, exec (.portResetAssert s.mgmt) s = .next t ∧
      t.engine =
        { state := .init
          head := 0
          tail := 0
          current := none
          report := none
          phase := none
          requests := [{ kind := .initBurst, access := fullWrite (windowBase s) [0, 0, 0, 0] }] } ∧
      (∀ o ∈ t.outstanding, ∀ k, o.origin = .engine k → o.discarded = true) ∧
      (∀ (r : RingId) (b : RingBody) (rec : SeedingRecord), seedingRing s = some r → (s.ring r).body = some b →
        b.phase = .seeding rec →
        (t.ring r).body = some
          { b with
            phase :=
              match rec.purpose with
              | .arm => .defined
              | .clearFault f => .faulted { cause := .peerReset, time := f.time } none none } ∧
          ∀ x ∈ t.inFlight (other s.mgmt), x.isStalled = false) ∧
      (∀ u : Port, s.engine.state = .waiting (.setup u) → t.units.get u = none) ∧
      (∀ (u : Port) (n : NoticeUnit) (rec : RecordInFlight), s.engine.state = .waiting (.noticeOff u) → u ≠ s.mgmt →
        s.units.get u = some n → n.phase = .ready (some rec) true →
        t.units.get u = some { n with phase := .ready (some rec) false })

/-! ### Acceptance and answers (R163, R166) -/

/-- A port takes the offered request at the back of its list as QUEUED exactly when the list has room, neither
its line nor RESET is asserted, and the initialisation burst has been granted: since RESET (the window is
mapped), and for the managing port since its last reset (the engine has left INIT). Otherwise nothing changes
(R163, R160). -/
def Obligations.AcceptanceTakesRequest : Prop :=
  ∀ (p : Port) (q : Request) (s : State), q.wf = true →
    exec (.acceptance p q) s = .next
      (if (s.inFlight p).length < 8 ∧ s.portReset.get p = false ∧ s.resetLine = false ∧ s.windowMapped = true ∧
          (p = s.mgmt → s.engine.state ≠ .init) then
        { s with
          ports := s.ports.set p
            { inFlight := s.inFlight p ++
                [{ serial := (s.ports.get p).nextSerial, request := q, stage := .queued, cls := none, mark := none }]
              nextSerial := (s.ports.get p).nextSerial + 1 } }
      else s)

/-- The front entry leaves when it is DONE, with the request's own tag; a front entry that is not DONE keeps
every later response waiting (R166, R161). -/
def Obligations.FrontResponseLeaves : Prop :=
  ∀ (p : Port) (e : InFlight) (rest : List InFlight) (s : State), s.inFlight p = e :: rest →
    (∀ (status : BusStatus) (data : List Word), e.stage = .done status data →
      exec (.responseDeparture p) s = .next
        { s with
          ports := s.ports.set p { s.ports.get p with inFlight := rest }
          responseBus := s.responseBus.set p
            (s.responseBus.get p ++ [{ tag := e.request.tag, status := status, data := data }]) }) ∧
    ((∀ status data, e.stage ≠ .done status data) → exec (.responseDeparture p) s = .next s)

/-! ### Presentation (R164, R165, R167 to R169) -/

/-- A request past FFFFFFFFH is refused without classification (R160); a PLAIN one is forwarded (R168); one to
a SEEDING ring stalls (R38); one to a FAULTED ring, and a read of a TRACKING ring's index word, is forwarded
unchecked (R60, R24). None is counted or marked. -/
def Obligations.UncheckedPresentation : Prop :=
  ∀ (s : State) (p : Port) (before after : List InFlight) (e : InFlight), Presents s p before e after →
    (runsPast e.request.access = true →
      exec (.presentation p) s = .next
        (s.setInFlight p (before ++ e.presented (refusedStage e.request.access) none none :: after))) ∧
    (runsPast e.request.access = false →
      (classify s e.request.access = .plain →
        exec (.presentation p) s = .next
          (s.setInFlight p (before ++ e.presented .eligible (some .plain) none :: after))) ∧
      ∀ (r : RingId) (b : RingBody), (s.ring r).body = some b →
        classify s e.request.access ∈ [AccessClass.ringData r, .headWord r, .tailWord r] →
        ((s.ring r).isSeeding = true →
          exec (.presentation p) s = .next
            (s.setInFlight p
              (before ++ e.presented .stalled (some (classify s e.request.access)) none :: after))) ∧
        ((∃ f oh ot, b.phase = .faulted f oh ot) ∨
            (∃ head tail, b.phase = .tracking head tail) ∧ isWrite e.request.access = false ∧
              classify s e.request.access ≠ .ringData r →
          exec (.presentation p) s = .next
            (s.setInFlight p
              (before ++ e.presented .eligible (some (classify s e.request.access)) none :: after))))

/-- A write of a TRACKING ring's index word is checked for form, owner and advance, in that order (R25 to R29).
A valid one is forwarded with its mark (R32); a violation is charged and refused in REFUSE and HOLD (R31), and
charged, made a fault of kind INDEX and forwarded in OBSERVE (R30). The premise on `heldOn` is R70's: an OBSERVE
ring holds no write. Which enable goes with which byte of the written value is the model's choice (log entry 12). -/
def Obligations.IndexWriteChecked : Prop :=
  ∀ (s : State) (p : Port) (before after : List InFlight) (e : InFlight) (r : RingId) (w : IndexWord)
    (b : RingBody) (head tail : Index) (x : WriteWord),
    Presents s p before e after → runsPast e.request.access = false →
    classify s e.request.access = (match w with | .head => .headWord r | .tail => .tailWord r) →
    (s.ring r).body = some b → b.phase = .tracking head tail → e.request.access.transfer = .write [x] →
    (b.desc.guardMode = .observe → heldOn s r = none) →
    exec (.presentation p) s = .next
      (match indexVerdict b.desc head tail w p x with
      | none =>
        s.setInFlight p
          (before ++ e.presented .eligible (some (classify s e.request.access)) (some (.ringIndex r w)) :: after)
      | some k =>
        let charged := chargeViolation r k p e.request.access.addr s
        if b.desc.guardMode = .observe then
          (faultEntry r (.index k p e.request.access.addr (recordedValue x)) charged).setInFlight p
            (before ++ e.presented .eligible (some (classify s e.request.access)) none :: after)
        else
          charged.setInFlight p
            (before ++
              e.presented (refusedStage e.request.access) (some (classify s e.request.access)) none :: after))

/-- A data-area access of a TRACKING ring is judged slot by slot by the table of R47 with the permission of R48
(R46, R49). Admissible: forwarded (R50). A violation: charged and forwarded in OBSERVE (R51), charged and
refused in REFUSE (R52) and, but for OVERWRITE, in HOLD (R54). An OVERWRITE of a HOLD ring is held, uncounted,
when the other port's hold slot is EMPTY (R72), and is charged as HOLD_CONFLICT and refused when it is HOLDING
(R73). -/
def Obligations.DataAccessChecked : Prop :=
  ∀ (s : State) (p : Port) (before after : List InFlight) (e : InFlight) (r : RingId) (b : RingBody)
    (head tail : Index),
    Presents s p before e after → runsPast e.request.access = false →
    classify s e.request.access = .ringData r → (s.ring r).body = some b → b.phase = .tracking head tail →
    b.desc.FieldsOk →
    let x := e.request.access
    let shown (stage : Stage) (u : State) := u.setInFlight p (before ++ e.presented stage (some (.ringData r)) none :: after)
    exec (.presentation p) s = .next
      (match occupancyVerdict b.desc head tail p x with
      | none => shown .eligible s
      | some k =>
        if b.desc.guardMode = .observe then shown .eligible (chargeViolation r k p x.addr s)
        else if b.desc.guardMode = .hold ∧ k = .overwrite then
          if s.holds.get (other p) = none then
            shown .held
              (s.setHold p (some
                { ring := r
                  slots := ((coveredWords x).map (slotAt b.desc)).dedup
                  first := x.addr
                  start := s.time }))
          else shown (refusedStage x) (chargeViolation r .holdConflict p x.addr s)
        else shown (refusedStage x) (chargeViolation r k p x.addr s))

/-- Inside the control window reads are forwarded, the other port's writes are refused, the managing port's
slot writes are forwarded, and its header writes are refused but for a valid command head write, which is
forwarded with its mark; a refused one covering word 0 raises HEAD_REFUSED (R122, R123). -/
def Obligations.WindowAccessChecked : Prop :=
  ∀ (s : State) (p : Port) (before after : List InFlight) (e : InFlight) (cls : AccessClass),
    Presents s p before e after → runsPast e.request.access = false → classify s e.request.access = cls →
    cls = .controlHeader ∨ cls = .commandSlot →
    let x := e.request.access
    let forwarded (mark : Option ApplyMark) := s.setInFlight p (before ++ e.presented .eligible (some cls) mark :: after)
    let refused (u : State) := u.setInFlight p (before ++ e.presented (refusedStage x) (some cls) none :: after)
    (isWrite x = false → exec (.presentation p) s = .next (forwarded none)) ∧
    (isWrite x = true → p ≠ s.mgmt → exec (.presentation p) s = .next (refused s)) ∧
    (isWrite x = true → p = s.mgmt → cls = .commandSlot → exec (.presentation p) s = .next (forwarded none)) ∧
    (∀ w : WriteWord, x.transfer = .write [w] → p = s.mgmt → cls = .controlHeader → x.addr = windowBase s →
      headVerdict s w = true → exec (.presentation p) s = .next (forwarded (some .commandHead))) ∧
    (isWrite x = true → p = s.mgmt → cls = .controlHeader →
      (∀ w : WriteWord, x.transfer = .write [w] → x.addr = windowBase s → headVerdict s w = false) →
      exec (.presentation p) s = .next
        (refused (if (windowBase s).toNat ∈ coveredWords x then raise .device s.mgmt 0b000100#6 s else s)))

/-- In a notice unit's regions reads are forwarded, and every write is refused but a valid write of a port's own
tail word, which is forwarded with its mark (R115, R113). -/
def Obligations.NoticeAccessChecked : Prop :=
  ∀ (s : State) (p u : Port) (before after : List InFlight) (e : InFlight) (cls : AccessClass),
    Presents s p before e after → runsPast e.request.access = false → classify s e.request.access = cls →
    cls ∈ [AccessClass.noticeData u, .noticeHead u, .noticeTail u] →
    let x := e.request.access
    let forwarded (mark : Option ApplyMark) := s.setInFlight p (before ++ e.presented .eligible (some cls) mark :: after)
    let refused := s.setInFlight p (before ++ e.presented (refusedStage x) (some cls) none :: after)
    (isWrite x = false → exec (.presentation p) s = .next (forwarded none)) ∧
    (isWrite x = true → cls ≠ .noticeTail p → exec (.presentation p) s = .next refused) ∧
    (∀ (n : NoticeUnit) (w : WriteWord), x.transfer = .write [w] → cls = .noticeTail p → s.units.get p = some n →
      exec (.presentation p) s = .next (if tailVerdict n w = true then forwarded (some .noticeTail) else refused))

/-- A CROSSING access stalls when it touches a SEEDING ring; else it is refused, uncounted, when it touches the
window or a notice region, raising HEAD_REFUSED when it is a managing port's write covering word 0; else it is
charged to the TRACKING ring that holds the lowest of its words in TRACKING rings' regions, and forwarded or
refused by that ring's guard mode; else it is forwarded (R169, R55). -/
def Obligations.CrossingDecided : Prop :=
  ∀ (s : State) (p : Port) (before after : List InFlight) (e : InFlight),
    Presents s p before e after → runsPast e.request.access = false → classify s e.request.access = .crossing →
    let x := e.request.access
    let seeding := (coveredWords x).any (liesInRing s RingEntry.isSeeding)
    let guarded := (coveredWords x).any (liesProtected s)
    let shown (stage : Stage) (u : State) := u.setInFlight p (before ++ e.presented stage (some .crossing) none :: after)
    (seeding = true → exec (.presentation p) s = .next (shown .stalled s)) ∧
    (seeding = false → guarded = true →
      exec (.presentation p) s = .next
        (shown (refusedStage x)
          (if p = s.mgmt ∧ isWrite x = true ∧ (windowBase s).toNat ∈ coveredWords x then
            raise .device s.mgmt 0b000100#6 s
          else s))) ∧
    (seeding = false → guarded = false → (coveredWords x).all (fun a => !liesInRing s RingEntry.isTracking a) = true →
      exec (.presentation p) s = .next (shown .eligible s)) ∧
    (seeding = false → guarded = false → ∀ (low high : List Nat) (a : Nat) (r : RingId) (b : RingBody),
      coveredWords x = low ++ a :: high → (∀ a' ∈ low, liesInRing s RingEntry.isTracking a' = false) →
      (regionAt s a = some (.ringData r) ∨ ∃ w, regionAt s a = some (.ringIndex r w)) →
      (s.ring r).isTracking = true → (s.ring r).body = some b →
      exec (.presentation p) s = .next
        (shown (if b.desc.guardMode = .observe then .eligible else refusedStage x)
          (chargeViolation r .crossing p x.addr s)))

/-- The region map names at most one region for each byte address, when the reserved regions lie apart (R20,
R21). -/
def Obligations.OneRegionPerAddress : Prop :=
  ∀ (s : State) (a : Nat), RegionsSound s →
    ∀ x ∈ regionMap s, ∀ y ∈ regionMap s, x.2.contains a = true → y.2.contains a = true → x = y

/-- The occupied slots are those named by tail, tail + 1, …, head - 1 (R2). -/
def Obligations.OccupiedSlotsAreNamed : Prop :=
  ∀ (e k : Nat) (head tail : Index), 1 ≤ e → e ≤ 15 → k < 2 ^ e → distance head tail ≤ 2 ^ e →
    (slotOccupied (2 ^ e) head tail k = true ↔
      ∃ i, i < distance head tail ∧ slotIndex (tail + BitVec.ofNat 16 i) (2 ^ e) = k)

/-! ### Charging a violation and entering FAULTED (1.5, 3.4) -/

/-- Raising a ring kind adds it to the pending set for the notify port, the ring joining the back of that port's
queue when the set was empty, and does nothing when the mask leaves the kind out; the six kinds have the bits 0 to 5
of 10.1 (R90, R93, R181). Charging a violation raises the ring's saturating count by one, replaces its last-violation
record, and raises VIOLATION (R22, R23, R89). Nothing else changes. -/
def Obligations.ViolationCharged : Prop :=
  ∀ (s : State) (r : RingId) (b : RingBody), (s.ring r).body = some b →
    let n := b.desc.notify
    let pend := (s.ring r).pend
    let told (k : RingKind) (e : RingEntry) : State :=
      if b.desc.mask.getLsbD (kindBit k) then
        { s with
          rings := s.rings.set r { e with pend := pend.set n (pend.get n ||| BitVec.ofNat 6 (2 ^ kindBit k)) }
          queues := if pend.get n = 0 then s.queues.set n (s.queues.get n ++ [.ring r]) else s.queues }
      else { s with rings := s.rings.set r e }
    (∀ k : RingKind, raiseRing r k s = told k (s.ring r)) ∧
    ∀ (k : ViolationKind) (p : Port) (addr : Word),
      chargeViolation r k p addr s = told .violation (countedEntry s r k p addr)

/-- Fault entry of a TRACKING ring: the record is written with the current time, the observations start absent,
the ring's applied marks are removed, a write held on it becomes ELIGIBLE with its slot EMPTY, and FAULT is
raised: where the mask has it, it joins the pending set for the notify port, and the ring joins the back of that
port's queue when the set was empty (R93). Count, last violation, the pending set for the other port and the other
port's queue are kept (R57, R58). A ring that is not TRACKING is left alone (R59). -/
def Obligations.FaultEntryEffects : Prop :=
  ∀ (s : State) (r : RingId) (cause : FaultCause) (b : RingBody), (s.ring r).body = some b →
    ((s.ring r).isTracking = false → faultEntry r cause s = s) ∧
    ((s.ring r).isTracking = true →
      let n := b.desc.notify
      let pend := (s.ring r).pend
      ∃ t, faultEntry r cause s = t ∧
        t.ring r =
          { s.ring r with
            body := some { b with phase := .faulted { cause := cause, time := s.time } none none }
            pend := if b.desc.mask.getLsbD 3 then pend.set n (pend.get n ||| 0b001000#6) else pend } ∧
        t.queues =
          (if b.desc.mask.getLsbD 3 ∧ pend.get n = 0 then s.queues.set n (s.queues.get n ++ [.ring r])
          else s.queues) ∧
        (∀ r', r' ≠ r → t.ring r' = s.ring r') ∧
        (heldOn s r = none → t.ports = s.ports ∧ t.holds = s.holds) ∧
        (∀ (p : Port) (h : HoldSlot) (before after : List InFlight) (e : InFlight), heldOn s r = some (p, h) →
          s.inFlight p = before ++ e :: after → e.stage = .held → (∀ x ∈ before, x.isHeld = false) →
          t.holds = s.holds.set p none ∧ t.inFlight p = before ++ { e with stage := .eligible } :: after ∧
            t.inFlight (other p) = s.inFlight (other p)) ∧
        t.outstanding =
          s.outstanding.map (fun o =>
            match o.origin with
            | .port p n (some r') true => if r' = r then { o with origin := .port p n (some r) false } else o
            | _ => o) ∧
        t.engine = s.engine ∧ t.units = s.units ∧ t.time = s.time ∧ t.device = s.device ∧ t.order = s.order ∧
        t.requester = s.requester ∧ t.memoryBus = s.memoryBus ∧ t.responseBus = s.responseBus)

/-! ### Grants (R172, R173) -/

/-- The arbiter grants the request of the highest requester in the order that has one; that requester drops to
the lowest place, the others keep their order, and the request joins the outstanding list, not discarded, and
the memory bus. While RESET is asserted, or with 8 requests outstanding or none waiting, nothing is granted
(R172, R174, R176). -/
def Obligations.GrantRotates : Prop :=
  ∀ s : State,
    (∀ (high low : List Requester) (q : Requester) (x : Access), s.resetLine = false → s.outstanding.length < 8 →
      s.order = high ++ q :: low → (∀ q' ∈ high, requestAt s q' = none) → requestAt s q = some x →
      ∃ (t : State) (origin : Origin), exec .grant s = .next t ∧ t.order = high ++ low ++ [q] ∧
        t.outstanding = s.outstanding ++ [{ origin := origin, discarded := false }] ∧
        (match q, origin with
        | .port p, .port p' n _ _ => p' = p ∧ ∃ e ∈ s.inFlight p, e.stage = .eligible ∧ e.serial = n
        | .engine, .engine k => ∃ rest, s.engine.requests = { kind := k, access := x } :: rest
        | .notice, .notice u w => s.requester.job = some { unit := u, write := w, access := x, waiting := true }
        | _, _ => False) ∧
        t.memoryBus = s.memoryBus ++ [x] ∧ t.time = s.time ∧ t.responseBus = s.responseBus) ∧
    (s.resetLine = true ∨ 8 ≤ s.outstanding.length ∨ (∀ q ∈ s.order, requestAt s q = none) →
      exec .grant s = .next s)

/-- The grant of a valid head write whose ring is TRACKING: the head becomes the written value, the fill rises by
the advance, FILL_HIGH is raised when the fill crosses the high mark and FILL_LOW never, and the request carries
the applied mark (R33, R87). -/
def Obligations.HeadWriteApplied : Prop :=
  ∀ (s : State) (p : Port) (before after : List InFlight) (e : InFlight) (r : RingId) (b : RingBody)
    (head tail : Index) (x : WriteWord),
    TrackingSound s → GrantsPort s p before e after → e.mark = some (.ringIndex r .head) →
    e.request.access.transfer = .write [x] → (s.ring r).body = some b → b.phase = .tracking head tail →
    let fill := distance head tail
    let fill' := distance (indexOf x) tail
    let moved := (grantedEntry s p before e after).setBody r { b with phase := .tracking (indexOf x) tail }
    let told := if b.highMark.any (fun h => fill < h && h ≤ fill') then raiseRing r .fillHigh moved else moved
    fill' = fill + distance (indexOf x) head ∧
      exec .grant s = .next
        (handed (drainTestSeeding told) (.port p) (.port p e.serial (some r) true) e.request.access)

/-- The grant of a valid tail write whose ring is TRACKING: the tail becomes the written value, the fill falls by
the advance, FILL_LOW is raised when the fill crosses the low mark and FILL_HIGH never, and the request carries
the applied mark (R33, R87). A write held on the ring is released when every recorded slot is now free, and
stays held otherwise (R74). -/
def Obligations.TailWriteApplied : Prop :=
  ∀ (s : State) (p : Port) (before after : List InFlight) (e : InFlight) (r : RingId) (b : RingBody)
    (head tail : Index) (x : WriteWord),
    TrackingSound s → GrantsPort s p before e after → e.mark = some (.ringIndex r .tail) →
    e.request.access.transfer = .write [x] → (s.ring r).body = some b → b.phase = .tracking head tail →
    b.desc.FieldsOk →
    let fill := distance head tail
    let fill' := distance head (indexOf x)
    let moved := (grantedEntry s p before e after).setBody r { b with phase := .tracking head (indexOf x) }
    let told := if b.lowMark.any (fun l => l < fill && fill' ≤ l) then raiseRing r .fillLow moved else moved
    let done (u : State) := handed (drainTestSeeding u) (.port p) (.port p e.serial (some r) true) e.request.access
    fill = fill' + distance (indexOf x) tail ∧
      (heldOn s r = none → exec .grant s = .next (done told)) ∧
      ∀ (q : Port) (h : HoldSlot) (l₁ l₂ : List InFlight) (f : InFlight), heldOn s r = some (q, h) →
        s.inFlight q = l₁ ++ f :: l₂ → f.stage = .held → (∀ y ∈ l₁, y.isHeld = false) →
        exec .grant s = .next
          (done
            (if h.slots.all (fun k => !isOccupied b.desc head (indexOf x) k) then
              (told.setHold q none).setInFlight q (l₁ ++ { f with stage := .eligible } :: l₂)
            else told))

/-- The grant of an index write to a FAULTED ring: with recovery QUIESCE and a full-word write of the word's owner
the observation is set, and with both present and equal the ring is TRACKING, empty, and RECOVERED is raised
(R62, R63). Any other such write changes nothing in the ring, and none carries an applied mark (R34). -/
def Obligations.QuiesceObserved : Prop :=
  ∀ (s : State) (p : Port) (before after : List InFlight) (e : InFlight) (r : RingId) (w : IndexWord) (b : RingBody)
    (fault : FaultRecord) (oh ot : Option Index) (x : WriteWord),
    GrantsPort s p before e after → e.cls = some (match w with | .head => .headWord r | .tail => .tailWord r) →
    e.mark = none ∨ e.mark = some (.ringIndex r w) → e.request.access.transfer = .write [x] →
    (s.ring r).body = some b → b.phase = .faulted fault oh ot →
    let granted := grantedEntry s p before e after
    let oh' := match w with | .head => some (indexOf x) | .tail => oh
    let ot' := match w with | .head => ot | .tail => some (indexOf x)
    let done (u : State) := handed (drainTestSeeding u) (.port p) (.port p e.serial (some r) false) e.request.access
    let owner := match w with | .head => b.desc.producer | .tail => other b.desc.producer
    (b.desc.recovery = .quiesce ∧ p = owner ∧ x.enables = 15#4 ∧ x.data.toNat < 65536 →
      exec .grant s = .next
        (done
          (if oh' = ot' then raiseRing r .recovered (granted.setBody r { b with phase := .tracking (indexOf x) (indexOf x) })
          else granted.setBody r { b with phase := .faulted fault oh' ot' }))) ∧
    (¬(b.desc.recovery = .quiesce ∧ p = owner ∧ x.enables = 15#4 ∧ x.data.toNat < 65536) →
      exec .grant s = .next (done granted))

/-- The grant of a valid command head write: the internal head becomes the value written; an IDLE engine whose
head then differs from its tail fetches; a HALTED one restarts, its first access the status write, then the
repeated report burst or the fetch; in any other state the head alone changes (R124, R127, R134). -/
def Obligations.CommandHeadApplied : Prop :=
  ∀ (s : State) (p : Port) (before after : List InFlight) (e : InFlight) (x : WriteWord),
    GrantsPort s p before e after → e.mark = some .commandHead → e.cls = some .controlHeader →
    e.request.access.transfer = .write [x] →
    let fetch : EngineRequest :=
      { kind := .fetch
        access :=
          { addr := windowBase s + BitVec.ofNat 32 (16 + 32 * (s.engine.tail.toNat % 32)), transfer := .read 8 } }
    let status : EngineRequest := { kind := .statusWrite, access := fullWrite (windowBase s + 8) [0] }
    let burst (rp : PendingReport) : EngineRequest :=
      { kind := .reportBurst
        access := fullWrite (windowBase s + BitVec.ofNat 32 (20 + 32 * (rp.index.toNat % 32)))
          [BitVec.ofNat 32 (statusNumber rp.status), rp.words.w2, rp.words.w3, rp.words.w4, rp.words.w5,
            rp.words.w6, rp.words.w7] }
    let here : Engine := { s.engine with head := indexOf x }
    let fetching (more : List EngineRequest) : Engine :=
      if indexOf x = s.engine.tail then { here with state := .idle, requests := s.engine.requests ++ more }
      else { here with state := .fetching, requests := s.engine.requests ++ more ++ [fetch] }
    let engine : Engine :=
      match s.engine.state with
      | .idle => fetching []
      | .halted _ =>
        match s.engine.report with
        | none => fetching [status]
        | some rp =>
          { here with
            state := .reporting
            phase := some .burst
            requests := s.engine.requests ++ [status, burst rp] }
      | _ => here
    exec .grant s = .next
      (handed (drainTestSeeding ((grantedEntry s p before e after).setEngine engine)) (.port p)
        (.port p e.serial none false) e.request.access)

/-- The grant of any other port request changes nothing but its own passage and a seeding's draining (R50, R168,
R173): one that carries no mark and is no write of an index word; one whose ring is FREE, DEFINED or SEEDING,
marked or not (R34); and one of a TRACKING ring that carries no mark (R63). A marked notice tail write sets its
unit's tail (R114). -/
def Obligations.OtherPortGrants : Prop :=
  ∀ (s : State) (p : Port) (before after : List InFlight) (e : InFlight), GrantsPort s p before e after →
    let granted := grantedEntry s p before e after
    let ring : Option RingId :=
      match e.cls with
      | some (.ringData r) => some r
      | some (.headWord r) => some r
      | some (.tailWord r) => some r
      | _ => none
    let done (u : State) := handed (drainTestSeeding u) (.port p) (.port p e.serial ring false) e.request.access
    (e.mark = none →
      (∀ r, e.cls ≠ some (.headWord r) ∧ e.cls ≠ some (.tailWord r)) ∨ isWrite e.request.access = false →
      exec .grant s = .next (done granted)) ∧
    (∀ r : RingId, e.mark = none ∨ (∃ w, e.mark = some (.ringIndex r w)) → ring = some r →
      stateNumber (s.ring r) ∈ [0, 1, 2] → exec .grant s = .next (done granted)) ∧
    (∀ r : RingId, e.mark = none → ring = some r → stateNumber (s.ring r) = 3 →
      exec .grant s = .next (done granted)) ∧
    (∀ (u : NoticeUnit) (x : WriteWord), e.mark = some .noticeTail → e.request.access.transfer = .write [x] →
      s.units.get p = some u →
      exec .grant s = .next (done (granted.setUnit p (some { u with tail := indexOf x }))))

/-- The grants of the part's own accesses: the initialisation burst maps the window and makes the engine IDLE with
head and tail 0 (R126); a report's tail write advances the tail and leads to the next fetch or to IDLE (R131);
the head seed read lets the tail seed read be presented (R41); every other access, and a notice write, only
leaves the arbiter. -/
def Obligations.PartGrants : Prop :=
  ∀ s : State,
    (∀ (k : EngineAccess) (x : Access) (rest : List EngineRequest), nextGrant s = some .engine →
      s.engine.requests = { kind := k, access := x } :: rest →
      let here : Engine := { s.engine with requests := rest }
      let done (u : State) := handed u .engine (.engine k) x
      (k = .initBurst → s.engine.state = .init →
        exec .grant s = .next
          (done { s with windowMapped := true, engine := { here with state := .idle, head := 0, tail := 0 } })) ∧
      (∀ rp : PendingReport, k = .tailWrite → s.engine.state = .reporting → s.engine.report = some rp →
        let next : Engine := { here with tail := rp.index + 1, current := none }
        exec .grant s = .next
          (done (s.setEngine
            (if s.engine.head = rp.index + 1 then { next with state := .idle }
            else
              { next with
                state := .fetching
                requests := rest ++
                  [{ kind := .fetch
                     access :=
                       { addr := windowBase s + BitVec.ofNat 32 (16 + 32 * ((rp.index + 1).toNat % 32))
                         transfer := .read 8 } }] })))) ∧
      (∀ (r : RingId) (b : RingBody), k = .seedRead r .head → (s.ring r).body = some b →
        exec .grant s = .next
          (done (s.setEngine
            { here with
              requests := rest ++
                [{ kind := .seedRead r .tail
                   access := { addr := b.desc.tailAddr, transfer := .read 1 } }] }))) ∧
      ((k ∈ [EngineAccess.fetch, .reportBurst, .haltBurst, .statusWrite] ∨ ∃ r, k = .seedRead r .tail) →
        exec .grant s = .next (done (s.setEngine here)))) ∧
    (∀ j : NoticeJob, nextGrant s = some .notice → s.requester.job = some j →
      exec .grant s = .next
        (handed (s.setJob (some { j with waiting := false })) .notice (.notice j.unit j.write) j.access))

/-- The draining test: when a ring is SEEDING in step DRAINING and neither port has an ELIGIBLE request whose class
names the ring or one of whose words lies in its regions, the step becomes READING and the head seed read is
presented; otherwise nothing changes (R40, R41). -/
def Obligations.DrainEnds : Prop :=
  ∀ s : State,
    (seedingRing s = none → drainTestSeeding s = s) ∧
    ∀ (r : RingId) (b : RingBody) (rec : SeedingRecord), seedingRing s = some r → (s.ring r).body = some b →
      b.phase = .seeding rec →
      let touches (e : InFlight) : Prop :=
        e.cls ∈ [some (AccessClass.ringData r), some (.headWord r), some (.tailWord r)] ∨
          ∃ a ∈ coveredWords e.request.access, ∃ g ∈ b.desc.regions, g.base ≤ a ∧ a < g.base + g.bytes
      (rec.step = .draining → (∀ p, ∀ e ∈ eligibleEntry s p, ¬touches e) →
        drainTestSeeding s =
          { s with
            rings := s.rings.set r (bodyEntry s r { b with phase := .seeding { rec with step := .reading } })
            engine :=
              { s.engine with
                requests := s.engine.requests ++
                  [{ kind := .seedRead r .head
                     access := { addr := b.desc.headAddr, transfer := .read 1 } }] } }) ∧
      (rec.step = .reading ∨ (∃ p, ∃ e ∈ eligibleEntry s p, touches e) → drainTestSeeding s = s)

/-! ### Memory responses (R174, R175) -/

/-- Memory answers a port request: its in-flight entry becomes DONE with memory's status and, for a READ, the words
returned (R175); a MEMERR on a write that carries an applied mark faults its ring with MEMORY_ERROR (R36). -/
def Obligations.MemoryAnswersPort : Prop :=
  ∀ (s : State) (p : Port) (n : Nat) (ring : Option RingId) (applied : Bool) (rest : List OutEntry)
    (before after : List InFlight) (e : InFlight) (status : MemStatus) (data : List Word),
    s.outstanding = { origin := .port p n ring applied, discarded := false } :: rest →
    s.inFlight p = before ++ e :: after → e.serial = n → (∀ y ∈ before, y.serial ≠ n) →
    (∀ len, e.request.access.transfer = .read len → data.length = len) →
    let stage : Stage :=
      .done (match status with | .okay => .okay | .memErr => .memErr)
        (match e.request.access.transfer with | .read _ => data | .write _ => [])
    let answered := (s.setOutstanding rest).setInFlight p (before ++ { e with stage := stage } :: after)
    exec (.memoryResponse status data) s = .next
      (match ring with
      | some r =>
        if applied = true ∧ status = .memErr then faultEntry r (.memoryError p e.request.access.addr) answered
        else answered
      | none => answered)

/-- The response of a discarded entry, and those to the initialisation burst, the halt burst and the restart status
write whatever their status, leave the outstanding list and change nothing else; a response that finds the list
empty changes nothing (R175, R126, R133, R134). -/
def Obligations.IgnoredResponses : Prop :=
  (∀ s : State, s.outstanding = [] → exec .discardedResponse s = .next s) ∧
  ∀ (s : State) (o : OutEntry) (rest : List OutEntry) (status : MemStatus), s.outstanding = o :: rest →
    (o.discarded = true → exec .discardedResponse s = .next { s with outstanding := rest }) ∧
    (o.discarded = false →
      (o.origin = .engine .initBurst →
        exec (.initialisationBurstResponse status) s = .next { s with outstanding := rest }) ∧
      (o.origin = .engine .haltBurst → exec (.haltBurstResponse status) s = .next { s with outstanding := rest }) ∧
      (o.origin = .engine .statusWrite →
        exec (.restartStatusWriteResponse status) s = .next { s with outstanding := rest }))

/-- A seed read is answered: the first response fills its seed (R41). The tail seed's arrival settles the seeding:
MEMORY_ERROR, PEER_RESET, SEED_INVALID or OK by the tests in that order (R42). OK makes the ring TRACKING from the
seeds; a failure returns it to DEFINED, or to FAULTED with the record set aside, its kind PEER_RESET for that
status, and the observations absent (R43). Stalled requests wait to be presented anew (R39), and the engine
reports the status with the parameters as fetched (R130). -/
def Obligations.SeedsSettle : Prop :=
  (∀ (s : State) (r : RingId) (w : IndexWord) (rest : List OutEntry) (b : RingBody) (rec : SeedingRecord)
    (status : MemStatus) (word : Word),
    s.outstanding = { origin := .engine (.seedRead r w), discarded := false } :: rest → (s.ring r).body = some b →
    b.phase = .seeding rec → rec.step = .reading →
    (match w with | .head => rec.tailSeed | .tail => rec.headSeed) = none →
    let seed : Seed := match status with | .okay => .word word | .memErr => .memErr
    exec (.seedResponse status word) s = .next
      { s with
        outstanding := rest
        rings := s.rings.set r
          (bodyEntry s r
            { b with
              phase := .seeding
                { rec with
                  headSeed := match w with | .head => some seed | .tail => rec.headSeed
                  tailSeed := match w with | .head => rec.tailSeed | .tail => some seed } }) }) ∧
  ∀ (s : State) (r : RingId) (rest : List OutEntry) (b : RingBody) (rec : SeedingRecord) (c : CurrentCommand)
    (headSeed : Seed) (status : MemStatus) (word : Word),
    s.outstanding = { origin := .engine (.seedRead r .tail), discarded := false } :: rest →
    (s.ring r).body = some b → b.phase = .seeding rec → rec.step = .reading → rec.headSeed = some headSeed →
    s.engine.state = .waiting (.seeding r) → s.engine.current = some c →
    let verdict : CommandStatus :=
      match headSeed, status with
      | .word h, .okay =>
        if rec.peerReset = true then .peerReset
        else if 65536 ≤ h.toNat ∨ 65536 ≤ word.toNat ∨ b.desc.slotCount < ahead h.toNat word.toNat then .seedInvalid
        else .ok
      | _, _ => .memoryError
    let phase : RingPhase :=
      match verdict, headSeed with
      | .ok, .word h => .tracking (h.extractLsb' 0 16) (word.extractLsb' 0 16)
      | v, _ =>
        match rec.purpose with
        | .arm => .defined
        | .clearFault f => .faulted (if v = .peerReset then { cause := .peerReset, time := f.time } else f) none none
    let queuedAgain (e : InFlight) : InFlight :=
      if e.stage = .stalled then { e with stage := .queued, cls := none } else e
    exec (.seedResponse status word) s = .next
      { s with
        outstanding := rest
        rings := s.rings.set r (bodyEntry s r { b with phase := phase })
        ports :=
          { a := { s.ports.a with inFlight := s.ports.a.inFlight.map queuedAgain }
            b := { s.ports.b with inFlight := s.ports.b.inFlight.map queuedAgain } }
        engine := reporting s c verdict c.words.params }

/-- A fetch is answered in FETCHING: OKAY makes the words the current command, at index tail, and the engine
EXECUTING (R127); MEMERR halts it with FETCH_ERROR at the slot's first word, raises ENGINE_HALT toward the
managing port and presents the halt burst (R128, R133). A report's writes are answered: the burst OKAY lets the
tail write of t + 1 be presented, the tail write OKAY discards the report (R131); MEMERR on either halts the
engine with REPORT_ERROR, slot t mod 32 and the address of the failing write, the report kept, a fetch withdrawn
or its response discarded, ENGINE_HALT raised and the halt burst presented (R132, R133). -/
def Obligations.EngineAnswered : Prop :=
  (∀ (s : State) (rest : List OutEntry) (words : SlotWords),
    s.outstanding = { origin := .engine .fetch, discarded := false } :: rest → s.engine.state = .fetching →
    exec (.fetchResponse .okay words) s = .next
      { s with
        outstanding := rest
        engine := { s.engine with state := .executing, current := some { index := s.engine.tail, words := words } } } ∧
    exec (.fetchResponse .memErr words) s = .next
      (raise .device s.mgmt 0b000001#6
        { s with
          outstanding := rest.map fun o => if o.origin = .engine .fetch then { o with discarded := true } else o
          engine := haltedEngine s
            { cause := .fetchError
              slot := Fin.ofNat 32 s.engine.tail.toNat
              address := windowBase s + BitVec.ofNat 32 (16 + 32 * (s.engine.tail.toNat % 32)) } })) ∧
  ∀ (s : State) (rest : List OutEntry) (rp : PendingReport), s.engine.report = some rp →
    let halted (address : Word) : State :=
      raise .device s.mgmt 0b000001#6
        { s with
          outstanding := rest.map fun o => if o.origin = .engine .fetch then { o with discarded := true } else o
          engine := haltedEngine s
            { cause := .reportError, slot := Fin.ofNat 32 rp.index.toNat, address := address } }
    (s.outstanding = { origin := .engine .reportBurst, discarded := false } :: rest → s.engine.state = .reporting →
      exec (.reportBurstResponse .okay) s = .next
        { s with
          outstanding := rest
          engine :=
            { s.engine with
              phase := some .tail
              requests := s.engine.requests ++
                [{ kind := .tailWrite
                   access := fullWrite (windowBase s + 4) [BitVec.ofNat 32 ((rp.index.toNat + 1) % 65536)] }] } } ∧
      exec (.reportBurstResponse .memErr) s = .next
        (halted (windowBase s + BitVec.ofNat 32 (20 + 32 * (rp.index.toNat % 32))))) ∧
    (s.outstanding = { origin := .engine .tailWrite, discarded := false } :: rest →
      s.engine.state = .idle ∨ s.engine.state = .fetching →
      exec (.reportTailResponse .okay) s = .next
        { s with outstanding := rest, engine := { s.engine with report := none, phase := none } } ∧
      exec (.reportTailResponse .memErr) s = .next (halted (windowBase s + 4)))

/-! ### The engine's commands (08) -/

/-- The first three checks (R137, R138): an undefined code is BAD_COMMAND; a ring operand of 24 or more, and a
port operand of 2 or more, is BAD_RING; a ring or unit in a state the command is not allowed in is WRONG_STATE.
The command is reported so, with its parameters as fetched, and nothing else changes. -/
def Obligations.CommandsChecked : Prop :=
  ∀ (s : State) (c : CurrentCommand) (code operand : Nat), Executes s code operand c →
    let failed (status : CommandStatus) : Host.Outcome State Fault Refusal :=
      .next { s with engine := reporting s c status c.words.params }
    (code = 0 ∨ 14 ≤ code → exec .badCommand s = failed .badCommand) ∧
    (24 ≤ operand → ∀ i, (code, i) ∈ ringCommands → exec i s = failed .badRing) ∧
    (2 ≤ operand → (code = 11 → exec .setupNotice s = failed .badRing) ∧
      (code = 12 → exec .noticeOff s = failed .badRing)) ∧
    (∀ (r : RingId) (i : Instr) (states : List Nat), operand = r.val → (code, i) ∈ ringCommands →
      (code, states) ∈ allowedStates → stateNumber (s.ring r) ∉ states → exec i s = failed .wrongState) ∧
    (∀ p : Port, operand = portNumber p →
      (code = 11 → (∃ u ∈ s.units.get p, u.phase = .settingUp ∨ ∃ rec closing, u.phase = .ready rec closing) →
        exec .setupNotice s = failed .wrongState) ∧
      (code = 12 → s.units.get p = none → exec .noticeOff s = failed .wrongState))

/-- DEFINE_RING of a FREE or DEFINED ring. Parameters that write out no well-formed descriptor: BAD_FIELD (R140).
Regions that overlap one another or a region reserved by another owner: OVERLAP (R141). Otherwise the entry is
started afresh from the descriptor, its kinds forgotten and its records in flight made to return nothing (R16,
R99, R142). Which bits of words 5 and 6 are byte 0 to byte 3 is the model's choice (log entry 26). -/
def Obligations.DefineRingResult : Prop :=
  ∀ (s : State) (c : CurrentCommand) (r : RingId), Executes s 1 r.val c → stateNumber (s.ring r) ∈ [0, 1] →
    ((∀ d : Descriptor, d.FieldsOk → c.words.params ≠ descriptorParams d) →
      exec .defineRing s = .next { s with engine := reporting s c .badField c.words.params }) ∧
    ∀ d : Descriptor, d.FieldsOk → c.words.params = descriptorParams d →
      (¬LiesApart d.regions (reservedByOthers s r) →
        exec .defineRing s = .next { s with engine := reporting s c .overlap c.words.params }) ∧
      (LiesApart d.regions (reservedByOthers s r) →
        exec .defineRing s = .next
          { forgetRecords (· == .ring r) s with
            rings := s.rings.set r
              { body := some { desc := d, highMark := none, lowMark := none, phase := .defined }
                count := 0
                last := none
                pend := ⟨0, 0⟩ }
            queues := ⟨s.queues.a.filter (· != .ring r), s.queues.b.filter (· != .ring r)⟩
            engine := reporting s c .ok c.words.params })

/-- RELEASE_RING clears a DEFINED entry to FREE (R143, R17); RESET_COUNTS sets the count of a DEFINED, TRACKING or
FAULTED ring to 0 and makes its last-violation record absent, leaving everything else (R152); RESET_TABLE clears
every entry, takes every ring from both queues, removes every applied mark and releases the held writes (R159).
Where several ports hold is left out: one hold stands at a time (R69). -/
def Obligations.ClearingCommands : Prop :=
  ∀ (s : State) (c : CurrentCommand),
    (∀ r : RingId, Executes s 2 r.val c → stateNumber (s.ring r) = 1 →
      exec .releaseRing s = .next
        { forgetRecords (· == .ring r) s with
          rings := s.rings.set r { body := none, count := 0, last := none, pend := ⟨0, 0⟩ }
          queues := ⟨s.queues.a.filter (· != .ring r), s.queues.b.filter (· != .ring r)⟩
          engine := reporting s c .ok c.words.params }) ∧
    (∀ r : RingId, Executes s 10 r.val c → stateNumber (s.ring r) ∈ [1, 3, 4] →
      exec .resetCounts s = .next
        { s with
          rings := s.rings.set r { s.ring r with count := 0, last := none }
          engine := reporting s c .ok c.words.params }) ∧
    (∀ operand : Nat, Executes s 13 operand c →
      let cleared (u : State) : State :=
        { forgetRecords (· != .device) u with
          rings := Vector.replicate 24 { body := none, count := 0, last := none, pend := ⟨0, 0⟩ }
          queues := ⟨s.queues.a.filter (· == .device), s.queues.b.filter (· == .device)⟩
          outstanding := s.outstanding.map fun o =>
            match o.origin with
            | .port p n ring _ => { o with origin := .port p n ring false }
            | _ => o
          engine := reporting s c .ok c.words.params }
      (s.holds = ⟨none, none⟩ → exec .resetTable s = .next (cleared s)) ∧
      ∀ (p : Port) (h : HoldSlot) (before after : List InFlight) (e : InFlight), s.holds.get p = some h →
        s.holds.get (other p) = none → s.inFlight p = before ++ e :: after → e.stage = .held →
        (∀ y ∈ before, y.isHeld = false) →
        exec .resetTable s = .next
          (cleared ((s.setHold p none).setInFlight p (before ++ { e with stage := .eligible } :: after))))

/-- ARM_RING of a DEFINED ring, and CLEAR_FAULT of a FAULTED one, begin its seeding: the record has the purpose, the
peer-reset flag of a line asserted now, and both seeds absent; the step is READING at once, with the head seed
read presented, when nothing is to be drained; the engine waits; the observations and the fault record leave the
entry (R37, R40, R144, R147). -/
def Obligations.SeedingBegins : Prop :=
  ∀ (s : State) (c : CurrentCommand) (r : RingId) (b : RingBody), (s.ring r).body = some b →
    let drained : Bool := !drainBlocked s r b.desc
    let begun (purpose : SeedPurpose) : State :=
      { s with
        rings := s.rings.set r
          (bodyEntry s r
            { b with
              phase := .seeding
                { purpose := purpose
                  step := if drained then .reading else .draining
                  peerReset := s.portReset.a || s.portReset.b
                  headSeed := none
                  tailSeed := none } })
        engine := waitingFor s (.seeding r)
          (if drained then
            [{ kind := .seedRead r .head, access := { addr := b.desc.headAddr, transfer := .read 1 } }]
          else []) }
    (Executes s 3 r.val c → b.phase = .defined → exec .armRing s = .next (begun .arm)) ∧
    ∀ (f : FaultRecord) (oh ot : Option Index), Executes s 5 r.val c → b.phase = .faulted f oh ot →
      exec .clearFault s = .next (begun (.clearFault f))

/-- DISARM_RING returns a TRACKING or FAULTED ring to DEFINED, with its descriptor, marks, count, last violation
and pending kinds, removes the applied marks of its outstanding writes, and releases a write held on it, unchecked
and not counted (R146, R18, R82). -/
def Obligations.DisarmRingResult : Prop :=
  ∀ (s : State) (c : CurrentCommand) (r : RingId) (b : RingBody), Executes s 4 r.val c →
    (s.ring r).body = some b → stateNumber (s.ring r) ∈ [3, 4] →
    let disarmed (u : State) : State :=
      { u with
        rings := s.rings.set r (bodyEntry s r { b with phase := .defined })
        outstanding := s.outstanding.map fun o =>
          match o.origin with
          | .port p n (some r') true => if r' = r then { o with origin := .port p n (some r) false } else o
          | _ => o
        engine := reporting s c .ok c.words.params }
    (heldOn s r = none → exec .disarmRing s = .next (disarmed s)) ∧
    ∀ (p : Port) (h : HoldSlot) (before after : List InFlight) (e : InFlight), heldOn s r = some (p, h) →
      s.inFlight p = before ++ e :: after → e.stage = .held → (∀ y ∈ before, y.isHeld = false) →
      exec .disarmRing s = .next
        (disarmed ((s.setHold p none).setInFlight p (before ++ { e with stage := .eligible } :: after)))

/-- SET_MARKS of a DEFINED, TRACKING or FAULTED ring sets both marks, present or absent, when its fields are in
range for the ring's N, and fails BAD_FIELD otherwise; it raises nothing (R148, R86, R88). -/
def Obligations.SetMarksResult : Prop :=
  ∀ (s : State) (c : CurrentCommand) (r : RingId) (b : RingBody), Executes s 6 r.val c →
    (s.ring r).body = some b → stateNumber (s.ring r) ∈ [1, 3, 4] →
    exec .setMarks s = .next
      (if MarksOk b.desc.slotCount c.words.params then
        { s with
          rings := s.rings.set r
            (bodyEntry s r
              { b with
                highMark := markOf c.words.params.w2 c.words.params.w3
                lowMark := markOf c.words.params.w4 c.words.params.w5 })
          engine := reporting s c .ok c.words.params }
      else { s with engine := reporting s c .badField c.words.params })

/-- SET_GUARD of a DEFINED, TRACKING or FAULTED ring stores guard mode, hold limit and recovery; the observations
of a FAULTED ring are kept only from QUIESCE to QUIESCE (R149, R65). A write held on the ring stays held in HOLD
(R79), is released and charged as OVERWRITE in OBSERVE (R80), refused and charged so in REFUSE (R81). Undefined
values fail BAD_FIELD. -/
def Obligations.SetGuardResult : Prop :=
  ∀ (s : State) (c : CurrentCommand) (r : RingId) (b : RingBody), Executes s 7 r.val c →
    (s.ring r).body = some b → stateNumber (s.ring r) ∈ [1, 3, 4] →
    (¬(c.words.params.w2.toNat ≤ 2 ∧ (1 ≤ c.words.params.w3.toNat ∧ c.words.params.w3.toNat ≤ 65535) ∧
        c.words.params.w4.toNat ≤ 1) →
      exec .setGuard s = .next { s with engine := reporting s c .badField c.words.params }) ∧
    ∀ (g : GuardMode) (rcv : Recovery), c.words.params.w2.toNat = guardNumber g →
      (1 ≤ c.words.params.w3.toNat ∧ c.words.params.w3.toNat ≤ 65535) →
      c.words.params.w4.toNat = recoveryNumber rcv →
      let body : RingBody :=
        { b with
          desc := { b.desc with guardMode := g, holdLimit := c.words.params.w3.toNat, recovery := rcv }
          phase :=
            match b.phase with
            | .faulted f oh ot =>
              if b.desc.recovery = .quiesce ∧ rcv = .quiesce then .faulted f oh ot else .faulted f none none
            | ph => ph }
      let stored : State := { s with rings := s.rings.set r (bodyEntry s r body) }
      let done (u : State) : State := { u with engine := reporting s c .ok c.words.params }
      (heldOn s r = none ∨ g = .hold → exec .setGuard s = .next (done stored)) ∧
      ∀ (p : Port) (h : HoldSlot) (before after : List InFlight) (e : InFlight), heldOn s r = some (p, h) →
        s.inFlight p = before ++ e :: after → e.stage = .held → (∀ y ∈ before, y.isHeld = false) → g ≠ .hold →
        exec .setGuard s = .next
          (done
            (chargeViolation r .overwrite p h.first
              ((stored.setHold p none).setInFlight p
                (before ++ { e with
                  stage := if g = .observe then .eligible else refusedStage e.request.access } :: after))))

/-- SET_NOTIFY of a DEFINED, TRACKING or FAULTED ring stores port and mask. The pending kinds the new mask leaves
out are dropped; the rest stay, or move to the new port, the ring joining the back of its queue; a ring left
without kinds leaves its queue (R151, R97, R98). Undefined values fail BAD_FIELD. -/
def Obligations.SetNotifyResult : Prop :=
  ∀ (s : State) (c : CurrentCommand) (r : RingId) (b : RingBody), Executes s 8 r.val c →
    (s.ring r).body = some b → stateNumber (s.ring r) ∈ [1, 3, 4] → NoticesAgree s →
    (¬(c.words.params.w2.toNat ≤ 1 ∧ c.words.params.w3.toNat < 64) →
      exec .setNotify s = .next { s with engine := reporting s c .badField c.words.params }) ∧
    ∀ p : Port, c.words.params.w2.toNat = portNumber p → c.words.params.w3.toNat < 64 →
      let mask : KindSet := BitVec.ofNat 6 c.words.params.w3.toNat
      let old := b.desc.notify
      let kept := (s.ring r).pend.get old &&& mask
      exec .setNotify s = .next
        { s with
          rings := s.rings.set r
            { s.ring r with
              body := some { b with desc := { b.desc with notify := p, mask := mask } }
              pend := ((s.ring r).pend.set old 0).set p kept }
          queues :=
            if kept = 0 then s.queues.set old ((s.queues.get old).filter (· != .ring r))
            else if p = old then s.queues
            else (s.queues.set old ((s.queues.get old).filter (· != .ring r))).set p (s.queues.get p ++ [.ring r])
          engine := reporting s c .ok c.words.params }

/-- QUERY_RING, in any ring state, reports the view its parameter names and changes nothing else; a view other than
0 and 1 is BAD_FIELD (R153). -/
def Obligations.QueryRingResult : Prop :=
  ∀ (s : State) (c : CurrentCommand) (r : RingId), Executes s 9 r.val c →
    exec .queryRing s = .next
      { s with
        engine :=
          if c.words.params.w2 = 0 then reporting s c .ok (statusView s r)
          else if c.words.params.w2 = 1 then reporting s c .ok (faultView s r)
          else reporting s c .badField c.words.params }

/-- The words of the two views hold the entry's fields at the bits R186 gives them, in the codes 10.1 gives them
(violation kinds 1 to 10, fault kinds 1 to 3), an absent field as zero beside its cleared flag (R154, R155, R85,
R181). -/
def Obligations.ViewLayouts : Prop :=
  ∀ (s : State) (r : RingId),
    let e := s.ring r
    (let v := statusView s r
    (v.w2.extractLsb' 0 3).toNat = stateNumber e ∧
      (∀ b : RingBody, e.body = some b →
        (v.w2.extractLsb' 3 2).toNat = guardNumber b.desc.guardMode ∧
        (v.w2.extractLsb' 5 1).toNat = recoveryNumber b.desc.recovery ∧
        v.w2.getLsbD 6 = b.desc.writeback ∧ (v.w2.extractLsb' 7 1).toNat = portNumber b.desc.notify ∧
        v.w2.getLsbD 9 = b.highMark.isSome ∧ v.w2.getLsbD 10 = b.lowMark.isSome ∧
        v.w2.extractLsb' 16 6 = e.pend.get b.desc.notify ∧
        v.w5.extractLsb' 0 16 = BitVec.ofNat 16 (b.highMark.getD 0) ∧
        v.w5.extractLsb' 16 16 = BitVec.ofNat 16 (b.lowMark.getD 0)) ∧
      (e.body = none → v.w2.extractLsb' 3 8 = 0 ∧ v.w2.extractLsb' 16 6 = 0 ∧ v.w5 = 0) ∧
      v.w2.getLsbD 8 = e.isTracking ∧
      (∀ (b : RingBody) (head tail : Index), e.body = some b → b.phase = .tracking head tail →
        v.w3 = BitVec.ofNat 32 (head.toNat + 65536 * tail.toNat) ∧
        v.w4.extractLsb' 0 16 = BitVec.ofNat 16 (ahead head.toNat tail.toNat)) ∧
      (e.isTracking = false → v.w3 = 0 ∧ v.w4.extractLsb' 0 16 = 0) ∧ v.w4.extractLsb' 16 16 = e.count ∧
      v.w2.getLsbD 11 = (heldOn s r).isSome ∧
      (∀ (p : Port) (h : HoldSlot), heldOn s r = some (p, h) →
        (v.w2.extractLsb' 12 1).toNat = portNumber p ∧ v.w6.toNat = (s.time - h.start).toNat % 65536) ∧
      (heldOn s r = none → v.w2.getLsbD 12 = false ∧ v.w6 = 0) ∧
      v.w2.getLsbD 13 = e.last.isSome ∧
      (∀ l : LastViolation, e.last = some l →
        (v.w2.extractLsb' 14 1).toNat = portNumber l.port ∧ (v.w2.extractLsb' 24 4).toNat = violationNumber l.kind ∧
        v.w7 = l.address) ∧
      (e.last = none → v.w2.getLsbD 14 = false ∧ v.w2.extractLsb' 24 4 = 0 ∧ v.w7 = 0) ∧
      v.w2.getLsbD 15 = false ∧ v.w2.extractLsb' 22 2 = 0 ∧ v.w2.extractLsb' 28 4 = 0) ∧
    (let v := faultView s r
    (v.w2.extractLsb' 0 3).toNat = stateNumber e ∧
      (∀ (b : RingBody) (f : FaultRecord) (oh ot : Option Index), e.body = some b → b.phase = .faulted f oh ot →
        (v.w2.extractLsb' 3 2).toNat = faultNumber f.cause ∧ v.w5 = f.time ∧
        (match f.cause with
        | .index k p addr written =>
          (v.w2.extractLsb' 5 1).toNat = portNumber p ∧ (v.w2.extractLsb' 6 4).toNat = violationNumber k ∧ v.w3 = addr ∧
            v.w4 = written
        | .peerReset => v.w2.extractLsb' 5 5 = 0 ∧ v.w3 = 0 ∧ v.w4 = 0
        | .memoryError p addr =>
          (v.w2.extractLsb' 5 1).toNat = portNumber p ∧ v.w2.extractLsb' 6 4 = 0 ∧ v.w3 = addr ∧ v.w4 = 0)) ∧
      (stateNumber e ≠ 4 → v.w2.extractLsb' 3 7 = 0 ∧ v.w3 = 0 ∧ v.w4 = 0 ∧ v.w5 = 0) ∧
      v.w2.extractLsb' 16 16 = e.count ∧ v.w2.getLsbD 15 = e.last.isSome ∧
      (∀ l : LastViolation, e.last = some l →
        (v.w2.extractLsb' 14 1).toNat = portNumber l.port ∧ (v.w2.extractLsb' 10 4).toNat = violationNumber l.kind ∧
        v.w6 = l.address ∧ v.w7 = l.time) ∧
      (e.last = none → v.w2.extractLsb' 10 5 = 0 ∧ v.w6 = 0 ∧ v.w7 = 0))

/-- SETUP_NOTICE of an OFF or HALTED unit: fields outside R105's conditions fail BAD_FIELD, regions that overlap
OVERLAP (R156); otherwise the unit is RUNNING in step SETTING_UP with its geometry and head, tail and sequence
number 0, the apply mark leaves its waiting tail writes, and the engine waits (R106, R157). -/
def Obligations.SetupNoticeResult : Prop :=
  ∀ (s : State) (c : CurrentCommand) (p : Port), Executes s 11 (portNumber p) c →
    (s.units.get p = none ∨ ∃ u f, s.units.get p = some u ∧ u.phase = .halted f) →
    let w := c.words.params
    (¬GeometryOk w → exec .setupNotice s = .next { s with engine := reporting s c .badField w }) ∧
    (GeometryOk w → ¬LiesApart (unitOf w).regions (reservedByOtherUnits s p) →
      exec .setupNotice s = .next { s with engine := reporting s c .overlap w }) ∧
    (GeometryOk w → LiesApart (unitOf w).regions (reservedByOtherUnits s p) →
      exec .setupNotice s = .next
        { s with
          units := s.units.set p (some (unitOf w))
          ports := s.ports.set p
            { s.ports.get p with
              inFlight := (s.inFlight p).map fun e =>
                if e.stage = .eligible ∧ e.mark = some .noticeTail then { e with mark := none } else e }
          engine := waitingFor s (.setup p) [] })

/-- NOTICE_OFF of a HALTED unit, or of one with no record in flight, makes it OFF at once and reports OK with the
failing write of a HALTED one; a record in flight sets the closing flag, and the engine waits (R108, R158, R186).
The port's queue and pending sets are kept. -/
def Obligations.NoticeOffResult : Prop :=
  ∀ (s : State) (c : CurrentCommand) (p : Port) (u : NoticeUnit), Executes s 12 (portNumber p) c →
    s.units.get p = some u →
    let off (result : Params) : State :=
      { s with
        units := s.units.set p none
        ports := s.ports.set p
          { s.ports.get p with
            inFlight := (s.inFlight p).map fun e =>
              if e.stage = .eligible ∧ e.mark = some .noticeTail then { e with mark := none } else e }
        engine := reporting s c .ok result }
    (∀ closing, u.phase = .ready none closing → exec .noticeOff s = .next (off ⟨0, 0, 0, 0, 0, 0⟩)) ∧
    (∀ f, u.phase = .halted f →
      exec .noticeOff s = .next
        (off ⟨(match f.which with | .burst => 1 | .head => 3), f.address, 0, 0, 0, 0⟩)) ∧
    (∀ rec closing, u.phase = .ready (some rec) closing →
      exec .noticeOff s = .next
        { s with
          units := s.units.set p (some { u with phase := .ready (some rec) true })
          engine := waitingFor s (.noticeOff p) [] })

/-! ### The notice writer (06) -/

/-- A free requester serves a SETTING_UP unit: it presents the head word's setup write of 0 (R107, R109). Answered
OKAY, the tail word's write of 0 follows; that answered OKAY, the unit is READY and SETUP_NOTICE is reported OK; a
MEMERR on either makes the unit OFF and the report MEMORY_ERROR (R107). -/
def Obligations.SetupWritesRun : Prop :=
  ∀ (s : State) (p : Port) (u : NoticeUnit) (rest : List OutEntry) (c : CurrentCommand),
    s.units.get p = some u → u.phase = .settingUp →
    (s.requester.job = none → p ≠ s.requester.lastServed ∨ jobOf s (other p) = none →
      exec .setupJob s = .next
        { s with
          requester :=
            { lastServed := p
              job := some { unit := p, write := .setupHead, access := fullWrite u.headAddr [0], waiting := true } } }) ∧
    (s.engine.state = .waiting (.setup p) → s.engine.current = some c →
      (s.outstanding = { origin := .notice p .setupHead, discarded := false } :: rest →
        exec (.setupWriteResponse .okay) s = .next
          { s with
            outstanding := rest
            requester :=
              { s.requester with
                job := some
                  { unit := p, write := .setupTail, access := fullWrite u.tailAddr [0], waiting := true } } }) ∧
      (s.outstanding = { origin := .notice p .setupTail, discarded := false } :: rest →
        exec (.setupWriteResponse .okay) s = .next
          { s with
            outstanding := rest
            requester := { s.requester with job := none }
            units := s.units.set p (some { u with phase := .ready none false })
            engine := reporting s c .ok c.words.params }) ∧
      ∀ w, w ∈ [NoticeWrite.setupHead, .setupTail] →
        s.outstanding = { origin := .notice p w, discarded := false } :: rest →
        exec (.setupWriteResponse .memErr) s = .next
          { s with
            outstanding := rest
            requester := { s.requester with job := none }
            units := s.units.set p none
            ports := s.ports.set p
              { s.ports.get p with
                inFlight := (s.inFlight p).map fun e =>
                  if e.stage = .eligible ∧ e.mark = some .noticeTail then { e with mark := none } else e }
            engine := reporting s c .memoryError c.words.params })

/-- A free requester serves a READY unit with a free slot: the front source leaves the queue, its set is emptied
into the record, the record is sampled as the state stands, with the unit's sequence number and slot head mod M,
and its burst is presented to that slot (R95, R109, R110, R112). -/
def Obligations.RecordTaken : Prop :=
  ∀ (s : State) (p : Port) (u : NoticeUnit) (src : Source) (rest : List Source),
    s.requester.job = none → s.units.get p = some u → u.phase = .ready none false →
    s.queues.get p = src :: rest → src ∉ rest → ahead u.head.toNat u.tail.toNat < u.slotCount →
    p ≠ s.requester.lastServed ∨ jobOf s (other p) = none →
    let kinds := pendingSet s src p
    let words := recordWords s src kinds u.seq
    let slot := u.head.toNat % u.slotCount
    exec .recordTaking s = .next
      (setPendingSet src p 0
        { s with
          queues := s.queues.set p rest
          units := s.units.set p
            (some
              { u with
                phase := .ready
                  (some
                    { source := src, kinds := kinds, words := words, slot := slot, phase := .burst, cleared := false })
                  false })
          requester :=
            { lastServed := p
              job := some
                { unit := p
                  write := .recordBurst
                  access := fullWrite (u.base + BitVec.ofNat 32 (32 * slot)) words
                  waiting := true } } })

/-- A record's words hold the sample at the bits R187 gives: word 0 source, kinds and sequence number; for a ring
head, tail, fill and count, state, tracking flag, fault kind, last violation, address, timestamp and hold; for
DEVICE the timestamp and the engine status. Every code is the number 10.1 or 10.3 gives it (R95, R187, R133,
R181, R183). -/
def Obligations.RecordLayout : Prop :=
  ∀ (s : State) (kinds : KindSet) (seq : Index),
    (∀ r : RingId,
      let e := s.ring r
      ∃ w1 w2 w3 w4 w6, recordWords s (.ring r) kinds seq =
          [BitVec.ofNat 32 (r.val + 256 * kinds.toNat + 65536 * seq.toNat), w1, w2, w3, w4, s.time, w6, 0] ∧
        (∀ (b : RingBody) (head tail : Index), e.body = some b → b.phase = .tracking head tail →
          w1 = BitVec.ofNat 32 (head.toNat + 65536 * tail.toNat) ∧
          w2 = BitVec.ofNat 32 (ahead head.toNat tail.toNat + 65536 * e.count.toNat)) ∧
        (e.isTracking = false → w1 = 0 ∧ w2 = BitVec.ofNat 32 (65536 * e.count.toNat)) ∧
        (w3.extractLsb' 0 3).toNat = stateNumber e ∧ w3.getLsbD 3 = e.isTracking ∧
        (∀ (b : RingBody) (f : FaultRecord) (oh ot : Option Index), e.body = some b → b.phase = .faulted f oh ot →
          (w3.extractLsb' 4 2).toNat = faultNumber f.cause) ∧
        (stateNumber e ≠ 4 → w3.extractLsb' 4 2 = 0) ∧
        w3.getLsbD 6 = e.last.isSome ∧
        (∀ l ∈ e.last, (w3.extractLsb' 7 1).toNat = portNumber l.port ∧
          (w3.extractLsb' 8 4).toNat = violationNumber l.kind ∧ w4 = l.address) ∧
        (e.last = none → w3.extractLsb' 7 5 = 0 ∧ w4 = 0) ∧ w3.extractLsb' 12 20 = 0 ∧
        (∀ x ∈ heldOn s r, w6 = BitVec.ofNat 32 (1 + 2 * portNumber x.1)) ∧ (heldOn s r = none → w6 = 0)) ∧
    recordWords s .device kinds seq =
      [BitVec.ofNat 32 (255 + 256 * kinds.toNat + 65536 * seq.toNat), 0, 0, 0, 0, s.time,
        (match s.engine.state with
        | .halted info => BitVec.ofNat 32 (1 + 256 * haltNumber info.cause + 65536 * info.slot.val)
        | _ => 0),
        0]

/-- A record burst answered OKAY leads to the head write of head + 1; that answered OKAY completes the record: head
and sequence number advance by one, the job ends, and a closing unit goes OFF with NOTICE_OFF reported (R111,
R108). -/
def Obligations.RecordWritten : Prop :=
  ∀ (s : State) (p : Port) (u : NoticeUnit) (rec : RecordInFlight) (closing : Bool) (rest : List OutEntry),
    s.units.get p = some u → u.phase = .ready (some rec) closing →
    (s.outstanding = { origin := .notice p .recordBurst, discarded := false } :: rest → rec.phase = .burst →
      exec (.recordBurstResponse .okay) s = .next
        { s with
          outstanding := rest
          units := s.units.set p (some { u with phase := .ready (some { rec with phase := .head }) closing })
          requester :=
            { s.requester with
              job := some
                { unit := p
                  write := .recordHead
                  access := fullWrite u.headAddr [BitVec.ofNat 32 ((u.head.toNat + 1) % 65536)]
                  waiting := true } } }) ∧
    (s.outstanding = { origin := .notice p .recordHead, discarded := false } :: rest → rec.phase = .head →
      (closing = false →
        exec (.noticeHeadWriteResponse .okay) s = .next
          { s with
            outstanding := rest
            units := s.units.set p (some { u with head := u.head + 1, seq := u.seq + 1, phase := .ready none false })
            requester := { s.requester with job := none } }) ∧
      (closing = true →
        exec (.noticeHeadWriteResponse .okay) s = .next
          { s with
            outstanding := rest
            units := s.units.set p none
            ports := s.ports.set p
              { s.ports.get p with
                inFlight := (s.inFlight p).map fun e =>
                  if e.stage = .eligible ∧ e.mark = some .noticeTail then { e with mark := none } else e }
            requester := { s.requester with job := none }
            engine := settled s (.noticeOff p) .ok ⟨0, 0, 0, 0, 0, 0⟩ }))

/-- A record whose burst or head write is answered MEMERR fails: its unit is HALTED with the failing write, or OFF
when it is closing, with NOTICE_OFF reported; head and sequence number stay; and its kinds return to the front
of the queue (R116, R96): a DEVICE record's to the port it was taken for, a ring's, reduced to the ring's mask,
to its notify port, none when the ring was cleared since (a flag of the model's, log entry 22). -/
def Obligations.RecordFails : Prop :=
  ∀ (s : State) (p : Port) (u : NoticeUnit) (rec : RecordInFlight) (closing : Bool) (rest : List OutEntry)
    (w : NoticeWrite),
    s.units.get p = some u → u.phase = .ready (some rec) closing →
    s.outstanding = { origin := .notice p w, discarded := false } :: rest →
    (w = .recordBurst ∧ rec.phase = .burst ∨ w = .recordHead ∧ rec.phase = .head) →
    let failing : FailingWrite :=
      match rec.phase with
      | .burst => { address := u.base + BitVec.ofNat 32 (32 * rec.slot), which := .burst }
      | .head => { address := u.headAddr, which := .head }
    let back (q : Port) (k : KindSet) (t : State) : Prop :=
      let merged := pendingSet s rec.source q ||| k
      if merged = 0 then t.queues = s.queues ∧ t.rings = s.rings ∧ t.device = s.device
      else pendingSet t rec.source q = merged ∧
        t.queues = s.queues.set q (rec.source :: (s.queues.get q).filter (· != rec.source)) ∧
        (∀ src q', (src, q') ≠ (rec.source, q) → pendingSet t src q' = pendingSet s src q')
    ∃ t, (match w with
        | .recordBurst => exec (.recordBurstResponse .memErr) s
        | _ => exec (.noticeHeadWriteResponse .memErr) s) = .next t ∧
      t.outstanding = rest ∧ t.requester = { s.requester with job := none } ∧
      t.units = s.units.set p (if closing then none else some { u with phase := .halted failing }) ∧
      t.engine =
        (if closing then
          settled s (.noticeOff p) .ok
            ⟨(match failing.which with | .burst => 1 | .head => 3), failing.address, 0, 0, 0, 0⟩
        else s.engine) ∧
      (rec.source = .device → back p rec.kinds t) ∧
      (∀ (r : RingId) (b : RingBody), rec.source = .ring r → rec.cleared = false → (s.ring r).body = some b →
        back b.desc.notify (rec.kinds &&& b.desc.mask) t) ∧
      (∀ r : RingId, rec.source = .ring r → rec.cleared = true ∨ (s.ring r).body = none →
        t.queues = s.queues ∧ t.rings = s.rings ∧ t.device = s.device) ∧
      (∀ r : RingId, (t.ring r).body = (s.ring r).body ∧ (t.ring r).count = (s.ring r).count ∧
        (t.ring r).last = (s.ring r).last) ∧
      t.time = s.time ∧ t.holds = s.holds ∧ t.order = s.order ∧ t.memoryBus = s.memoryBus

/-- Each interrupt line is asserted exactly while its unit is RUNNING with fill above 0, or HALTED (R118). -/
def Obligations.InterruptLines : Prop :=
  ∀ (s : State) (p : Port),
    (s.units.get p = none → intLine s p = false) ∧
    ∀ u : NoticeUnit, s.units.get p = some u →
      (∀ f, u.phase = .halted f → intLine s p = true) ∧
      ((∀ f, u.phase ≠ .halted f) → (intLine s p = true ↔ u.head ≠ u.tail)) ∧
      (u.fill = ahead u.head.toNat u.tail.toNat ∧ (0 < u.fill ↔ u.head ≠ u.tail))

/-! ### The time base (R67, R77) -/

/-- While RESET is asserted the time base is 0 and does not step; after its release a step adds one, 4,294,967,295
going to 0, and tests the held write for expiry; the reset lines of the ports leave it (R67). With no write at
its limit the step changes nothing else. At the step at which a held write's elapsed time reaches its ring's hold
limit the write is refused, the slot is EMPTY, the violation is counted as HOLD_EXPIRED at the slot's first word
and the new time, and HOLD_EXPIRED, not VIOLATION, is raised (R77). HOLD_EXPIRY names that same step (log entry
9), and happens at no other. -/
def Obligations.TimeBaseSteps : Prop :=
  (∀ s : State, s.resetLine = true → exec .timeBaseStep s = .next s ∧ (ResetHolds s → s.time = 0)) ∧
  (∀ s : State, s.resetLine = false →
    (∀ (p : Port) (h : HoldSlot) (b : RingBody), s.holds.get p = some h → (s.ring h.ring).body = some b →
      ((s.time.toNat + 1) % 4294967296 + 4294967296 - h.start.toNat) % 4294967296 < b.desc.holdLimit) →
    exec .timeBaseStep s = .next { s with time := BitVec.ofNat 32 ((s.time.toNat + 1) % 4294967296) } ∧
      ∀ p, exec (.holdExpiry p) s = .next s) ∧
  (∀ (s : State) (p : Port) (h : HoldSlot) (b : RingBody) (before after : List InFlight) (e : InFlight),
    s.resetLine = false → s.holds.get p = some h → s.holds.get (other p) = none → (s.ring h.ring).body = some b →
    b.desc.holdLimit ≤ ((s.time.toNat + 1) % 4294967296 + 4294967296 - h.start.toNat) % 4294967296 →
    s.inFlight p = before ++ e :: after → e.stage = .held → (∀ y ∈ before, y.isHeld = false) →
    let ticked : State := { s with time := BitVec.ofNat 32 ((s.time.toNat + 1) % 4294967296) }
    let t : State :=
      raiseRing h.ring .holdExpired
        (({ ticked with rings := s.rings.set h.ring (countedEntry ticked h.ring .holdExpired p h.first) }.setHold p
            none).setInFlight p (before ++ { e with stage := refusedStage e.request.access } :: after))
    exec (.holdExpiry p) s = .next t ∧ exec .timeBaseStep s = .next t) ∧
  ∀ (s t : State) (p : Port), exec (.portResetAssert p) s = .next t ∨ exec (.portResetDeassert p) s = .next t →
    t.time = s.time

/-! ### Parameters written and read (10.4) -/

/-- DEFINE_RING's parameter words and descriptors match one to one: the words written out for a well-formed
descriptor are read back as it, and words that are read as a descriptor are those written out for it, and it is
well formed (R4, R140, R185). Which bits of words 5 and 6 are byte 0 to byte 3 is the model's choice (log entry
26). -/
def Obligations.DescriptorRoundTrip : Prop :=
  (∀ d : Descriptor, d.FieldsOk → parseDescriptor (descriptorParams d) = some d) ∧
  ∀ (w : Params) (d : Descriptor), parseDescriptor w = some d → d.FieldsOk ∧ descriptorParams d = w

/-! ### What never happens (the manual's whole-machine rules) -/

/-- The machine after reset meets every invariant below. -/
def Obligations.ResetMeetsInvariants : Prop :=
  ListsBounded State.reset ∧ OrderComplete State.reset ∧ AnswersInOrder State.reset ∧ NoticesAgree State.reset ∧
    SeedingWaits State.reset ∧ TrackingSound State.reset ∧ HoldSound State.reset ∧ AppliedTracked State.reset ∧
    NoticeSound State.reset ∧ EngineSound State.reset ∧ RegionsSound State.reset ∧ ResetHolds State.reset

/-- Every step keeps the passage in order: the bounds of the lists, the arbiter's four places, and each port's
requests going to memory and being answered in acceptance order (R162, R166, R172, R174). While RESET is
asserted, every step leaves every block at its power-on values (R176). -/
def Obligations.StepKeepsPassage : Prop :=
  (∀ s t : State, ListsBounded s → OrderComplete s → AnswersInOrder s → step s = .next t →
    ListsBounded t ∧ OrderComplete t ∧ AnswersInOrder t) ∧
  ∀ s t : State, ResetHolds s → step s = .next t → ResetHolds t

/-- Every step keeps the queues and the pending sets in agreement (R94, R9). -/
def Obligations.StepKeepsNotices : Prop := ∀ s t : State, NoticesAgree s → step s = .next t → NoticesAgree t

/-- Every step keeps a ring SEEDING only while the engine waits for its seeding, so at most one is (R13), and
applied marks on outstanding writes of TRACKING rings alone (R36). -/
def Obligations.StepKeepsRingRecords : Prop :=
  (∀ s t : State, SeedingWaits s → step s = .next t → SeedingWaits t) ∧
  ∀ s t : State, AppliedTracked s → step s = .next t → AppliedTracked t

/-- Every step keeps the fill of every TRACKING ring at most N (R5). -/
def Obligations.StepKeepsTracking : Prop := ∀ s t : State, TrackingSound s → step s = .next t → TrackingSound t

/-- Every step keeps this: while a write is held its ring is TRACKING in guard mode HOLD and a slot it touches is
occupied, and one port at most holds (R70, R69). -/
def Obligations.StepKeepsHolds : Prop := ∀ s t : State, HoldSound s → step s = .next t → HoldSound t

/-- Every step keeps the fill of a notice ring at most M, and a record in flight in a free slot (R112). -/
def Obligations.StepKeepsNoticeRings : Prop := ∀ s t : State, NoticeSound s → step s = .next t → NoticeSound t

/-- Every step keeps the engine's head at most 32 ahead of its tail (R124). -/
def Obligations.StepKeepsCommandRing : Prop := ∀ s t : State, EngineSound s → step s = .next t → EngineSound t

/-- Every step keeps descriptors well formed and the reserved regions apart (R4, R21). -/
def Obligations.StepKeepsRegions : Prop := ∀ s t : State, RegionsSound s → step s = .next t → RegionsSound t
end

