-- ==== Sys2Proof/Laws/Bits.lean ====
section
/-! SUPPORT. Index arithmetic and index words (R2, R25, R182) in plain numbers. -/

namespace Sys2Proof.Machine

/-- The distance of two indices in plain numbers (R2). -/
theorem distance_eq_ahead (x y : Index) : distance x y = ahead x.toNat y.toNat := by
  simp [distance, ahead, BitVec.toNat_sub]
  omega

theorem ahead_lt (x y : Nat) : ahead x y < 65536 := Nat.mod_lt _ (by decide)

/-- The fill of a notice ring in plain numbers (R103). -/
theorem NoticeUnit.fill_eq_ahead (u : NoticeUnit) : u.fill = ahead u.head.toNat u.tail.toNat :=
  distance_eq_ahead _ _

theorem lowHalf_toNat (x : Word) : (lowHalf x).toNat = x.toNat % 65536 := by simp [lowHalf]

theorem indexOf_eq_lowHalf (x : WriteWord) : indexOf x = lowHalf x.data := rfl

/-- A word has zero in its upper 16 bits when it is less than 65,536. -/
theorem highHalf_eq_zero (x : Word) : highHalf x = 0 ↔ x.toNat < 65536 := by
  constructor
  · intro h
    have h := congrArg BitVec.toNat h
    simp [highHalf, Nat.shiftRight_eq_div_pow] at h
    have := x.isLt
    omega
  · intro h
    apply BitVec.eq_of_toNat_eq
    simp [highHalf, Nat.shiftRight_eq_div_pow]
    omega

/-- The form check in plain numbers (R25). -/
theorem fullWordForm_iff (x : WriteWord) : fullWordForm x = true ↔ x.enables = 15#4 ∧ x.data.toNat < 65536 := by
  simp only [fullWordForm, Bool.and_eq_true, beq_iff_eq]
  exact and_congr_right fun _ => highHalf_eq_zero x.data

theorem fullWordForm_eq_false (x : WriteWord) :
    fullWordForm x = false ↔ (x.enables ≠ 15#4 ∨ 65536 ≤ x.data.toNat) := by
  rw [← Bool.not_eq_true, fullWordForm_iff, not_and_or, not_lt]

/-- An index as the part writes it (R182). -/
theorem indexAsWord_eq (i : Index) : indexAsWord i = BitVec.ofNat 32 i.toNat := by
  apply BitVec.eq_of_toNat_eq
  rw [indexAsWord, BitVec.toNat_append]
  have := i.isLt
  simp
  omega

theorem singleWrite_of {x : Access} {w : WriteWord} (h : x.transfer = .write [w]) : singleWrite x = some w := by
  simp [singleWrite, h]

end Sys2Proof.Machine
end

