-- ==== Sys2Proof/Laws/State.lean ====
section
/-! SUPPORT. What each update of the state leaves in each field: one lemma a field and update, all by
definition, so that no proof unfolds an update; and reading back what was written. -/

namespace Sys2Proof.Machine

/-! ### Pairs -/

variable {α : Type}

@[simp] theorem other_other (p : Port) : other (other p) = p := by cases p <;> rfl

@[simp] theorem other_ne (p : Port) : other p ≠ p := by cases p <;> decide

@[simp] theorem ne_other (p : Port) : p ≠ other p := by cases p <;> decide

theorem eq_or_eq_other (p q : Port) : q = p ∨ q = other p := by cases p <;> cases q <;> decide

theorem eq_other_of_ne {p q : Port} (h : q ≠ p) : q = other p := (eq_or_eq_other p q).resolve_left h

@[simp] theorem PerPort.get_set_self (x : PerPort α) (p : Port) (v : α) : (x.set p v).get p = v := by
  cases p <;> rfl

theorem PerPort.get_set_ne (x : PerPort α) {p q : Port} (v : α) (h : q ≠ p) : (x.set p v).get q = x.get q := by
  cases p <;> cases q <;> simp_all [PerPort.get, PerPort.set]

@[simp] theorem PerPort.get_set_other (x : PerPort α) (p : Port) (v : α) :
    (x.set p v).get (other p) = x.get (other p) := by cases p <;> rfl

@[simp] theorem PerPort.set_set (x : PerPort α) (p : Port) (v w : α) : (x.set p v).set p w = x.set p w := by
  cases p <;> rfl

@[simp] theorem PerPort.set_get (x : PerPort α) (p : Port) : x.set p (x.get p) = x := by cases p <;> rfl

theorem PerPort.ext_get {x y : PerPort α} (h : ∀ p, x.get p = y.get p) : x = y := by
  cases x; cases y; exact congrArg₂ PerPort.mk (h .a) (h .b)

/-! ### Fields under updates -/

variable (s : State)

@[simp] theorem State.setRing_pending (r : RingId) (e : RingEntry) : (s.setRing r e).pending = s.pending := rfl
@[simp] theorem State.setRing_resetLine (r : RingId) (e : RingEntry) :
    (s.setRing r e).resetLine = s.resetLine := rfl
@[simp] theorem State.setRing_portReset (r : RingId) (e : RingEntry) :
    (s.setRing r e).portReset = s.portReset := rfl
@[simp] theorem State.setRing_ctlBase (r : RingId) (e : RingEntry) : (s.setRing r e).ctlBase = s.ctlBase := rfl
@[simp] theorem State.setRing_mgmt (r : RingId) (e : RingEntry) : (s.setRing r e).mgmt = s.mgmt := rfl
@[simp] theorem State.setRing_time (r : RingId) (e : RingEntry) : (s.setRing r e).time = s.time := rfl
@[simp] theorem State.setRing_rings (r : RingId) (e : RingEntry) : (s.setRing r e).rings = s.rings.set r e := rfl
@[simp] theorem State.setRing_ports (r : RingId) (e : RingEntry) : (s.setRing r e).ports = s.ports := rfl
@[simp] theorem State.setRing_holds (r : RingId) (e : RingEntry) : (s.setRing r e).holds = s.holds := rfl
@[simp] theorem State.setRing_device (r : RingId) (e : RingEntry) : (s.setRing r e).device = s.device := rfl
@[simp] theorem State.setRing_queues (r : RingId) (e : RingEntry) : (s.setRing r e).queues = s.queues := rfl
@[simp] theorem State.setRing_units (r : RingId) (e : RingEntry) : (s.setRing r e).units = s.units := rfl
@[simp] theorem State.setRing_requester (r : RingId) (e : RingEntry) :
    (s.setRing r e).requester = s.requester := rfl
@[simp] theorem State.setRing_engine (r : RingId) (e : RingEntry) : (s.setRing r e).engine = s.engine := rfl
@[simp] theorem State.setRing_windowMapped (r : RingId) (e : RingEntry) :
    (s.setRing r e).windowMapped = s.windowMapped := rfl
@[simp] theorem State.setRing_order (r : RingId) (e : RingEntry) : (s.setRing r e).order = s.order := rfl
@[simp] theorem State.setRing_outstanding (r : RingId) (e : RingEntry) :
    (s.setRing r e).outstanding = s.outstanding := rfl
@[simp] theorem State.setRing_memoryBus (r : RingId) (e : RingEntry) :
    (s.setRing r e).memoryBus = s.memoryBus := rfl
@[simp] theorem State.setRing_responseBus (r : RingId) (e : RingEntry) :
    (s.setRing r e).responseBus = s.responseBus := rfl
@[simp] theorem State.setRing_freeCount (r : RingId) (e : RingEntry) :
    (s.setRing r e).freeCount = s.freeCount := rfl

@[simp] theorem State.setBody_pending (r : RingId) (b : RingBody) : (s.setBody r b).pending = s.pending := rfl
@[simp] theorem State.setBody_resetLine (r : RingId) (b : RingBody) : (s.setBody r b).resetLine = s.resetLine := rfl
@[simp] theorem State.setBody_portReset (r : RingId) (b : RingBody) : (s.setBody r b).portReset = s.portReset := rfl
@[simp] theorem State.setBody_ctlBase (r : RingId) (b : RingBody) : (s.setBody r b).ctlBase = s.ctlBase := rfl
@[simp] theorem State.setBody_mgmt (r : RingId) (b : RingBody) : (s.setBody r b).mgmt = s.mgmt := rfl
@[simp] theorem State.setBody_time (r : RingId) (b : RingBody) : (s.setBody r b).time = s.time := rfl
@[simp] theorem State.setBody_rings (r : RingId) (b : RingBody) :
    (s.setBody r b).rings = s.rings.set r { s.ring r with body := some b } := rfl
@[simp] theorem State.setBody_ports (r : RingId) (b : RingBody) : (s.setBody r b).ports = s.ports := rfl
@[simp] theorem State.setBody_holds (r : RingId) (b : RingBody) : (s.setBody r b).holds = s.holds := rfl
@[simp] theorem State.setBody_device (r : RingId) (b : RingBody) : (s.setBody r b).device = s.device := rfl
@[simp] theorem State.setBody_queues (r : RingId) (b : RingBody) : (s.setBody r b).queues = s.queues := rfl
@[simp] theorem State.setBody_units (r : RingId) (b : RingBody) : (s.setBody r b).units = s.units := rfl
@[simp] theorem State.setBody_requester (r : RingId) (b : RingBody) : (s.setBody r b).requester = s.requester := rfl
@[simp] theorem State.setBody_engine (r : RingId) (b : RingBody) : (s.setBody r b).engine = s.engine := rfl
@[simp] theorem State.setBody_windowMapped (r : RingId) (b : RingBody) :
    (s.setBody r b).windowMapped = s.windowMapped := rfl
@[simp] theorem State.setBody_order (r : RingId) (b : RingBody) : (s.setBody r b).order = s.order := rfl
@[simp] theorem State.setBody_outstanding (r : RingId) (b : RingBody) :
    (s.setBody r b).outstanding = s.outstanding := rfl
@[simp] theorem State.setBody_memoryBus (r : RingId) (b : RingBody) : (s.setBody r b).memoryBus = s.memoryBus := rfl
@[simp] theorem State.setBody_responseBus (r : RingId) (b : RingBody) :
    (s.setBody r b).responseBus = s.responseBus := rfl
@[simp] theorem State.setBody_freeCount (r : RingId) (b : RingBody) : (s.setBody r b).freeCount = s.freeCount := rfl

@[simp] theorem State.mapRings_pending (f : RingEntry → RingEntry) : (s.mapRings f).pending = s.pending := rfl
@[simp] theorem State.mapRings_resetLine (f : RingEntry → RingEntry) : (s.mapRings f).resetLine = s.resetLine := rfl
@[simp] theorem State.mapRings_portReset (f : RingEntry → RingEntry) : (s.mapRings f).portReset = s.portReset := rfl
@[simp] theorem State.mapRings_ctlBase (f : RingEntry → RingEntry) : (s.mapRings f).ctlBase = s.ctlBase := rfl
@[simp] theorem State.mapRings_mgmt (f : RingEntry → RingEntry) : (s.mapRings f).mgmt = s.mgmt := rfl
@[simp] theorem State.mapRings_time (f : RingEntry → RingEntry) : (s.mapRings f).time = s.time := rfl
@[simp] theorem State.mapRings_ports (f : RingEntry → RingEntry) : (s.mapRings f).ports = s.ports := rfl
@[simp] theorem State.mapRings_holds (f : RingEntry → RingEntry) : (s.mapRings f).holds = s.holds := rfl
@[simp] theorem State.mapRings_device (f : RingEntry → RingEntry) : (s.mapRings f).device = s.device := rfl
@[simp] theorem State.mapRings_queues (f : RingEntry → RingEntry) : (s.mapRings f).queues = s.queues := rfl
@[simp] theorem State.mapRings_units (f : RingEntry → RingEntry) : (s.mapRings f).units = s.units := rfl
@[simp] theorem State.mapRings_requester (f : RingEntry → RingEntry) : (s.mapRings f).requester = s.requester := rfl
@[simp] theorem State.mapRings_engine (f : RingEntry → RingEntry) : (s.mapRings f).engine = s.engine := rfl
@[simp] theorem State.mapRings_windowMapped (f : RingEntry → RingEntry) :
    (s.mapRings f).windowMapped = s.windowMapped := rfl
@[simp] theorem State.mapRings_order (f : RingEntry → RingEntry) : (s.mapRings f).order = s.order := rfl
@[simp] theorem State.mapRings_outstanding (f : RingEntry → RingEntry) :
    (s.mapRings f).outstanding = s.outstanding := rfl
@[simp] theorem State.mapRings_memoryBus (f : RingEntry → RingEntry) : (s.mapRings f).memoryBus = s.memoryBus := rfl
@[simp] theorem State.mapRings_responseBus (f : RingEntry → RingEntry) :
    (s.mapRings f).responseBus = s.responseBus := rfl
@[simp] theorem State.mapRings_freeCount (f : RingEntry → RingEntry) : (s.mapRings f).freeCount = s.freeCount := rfl

@[simp] theorem State.setInFlight_pending (p : Port) (l : List InFlight) :
    (s.setInFlight p l).pending = s.pending := rfl
@[simp] theorem State.setInFlight_resetLine (p : Port) (l : List InFlight) :
    (s.setInFlight p l).resetLine = s.resetLine := rfl
@[simp] theorem State.setInFlight_portReset (p : Port) (l : List InFlight) :
    (s.setInFlight p l).portReset = s.portReset := rfl
@[simp] theorem State.setInFlight_ctlBase (p : Port) (l : List InFlight) :
    (s.setInFlight p l).ctlBase = s.ctlBase := rfl
@[simp] theorem State.setInFlight_mgmt (p : Port) (l : List InFlight) : (s.setInFlight p l).mgmt = s.mgmt := rfl
@[simp] theorem State.setInFlight_time (p : Port) (l : List InFlight) : (s.setInFlight p l).time = s.time := rfl
@[simp] theorem State.setInFlight_rings (p : Port) (l : List InFlight) : (s.setInFlight p l).rings = s.rings := rfl
@[simp] theorem State.setInFlight_ports (p : Port) (l : List InFlight) :
    (s.setInFlight p l).ports = s.ports.set p { s.ports.get p with inFlight := l } := rfl
@[simp] theorem State.setInFlight_holds (p : Port) (l : List InFlight) : (s.setInFlight p l).holds = s.holds := rfl
@[simp] theorem State.setInFlight_device (p : Port) (l : List InFlight) :
    (s.setInFlight p l).device = s.device := rfl
@[simp] theorem State.setInFlight_queues (p : Port) (l : List InFlight) :
    (s.setInFlight p l).queues = s.queues := rfl
@[simp] theorem State.setInFlight_units (p : Port) (l : List InFlight) : (s.setInFlight p l).units = s.units := rfl
@[simp] theorem State.setInFlight_requester (p : Port) (l : List InFlight) :
    (s.setInFlight p l).requester = s.requester := rfl
@[simp] theorem State.setInFlight_engine (p : Port) (l : List InFlight) :
    (s.setInFlight p l).engine = s.engine := rfl
@[simp] theorem State.setInFlight_windowMapped (p : Port) (l : List InFlight) :
    (s.setInFlight p l).windowMapped = s.windowMapped := rfl
@[simp] theorem State.setInFlight_order (p : Port) (l : List InFlight) : (s.setInFlight p l).order = s.order := rfl
@[simp] theorem State.setInFlight_outstanding (p : Port) (l : List InFlight) :
    (s.setInFlight p l).outstanding = s.outstanding := rfl
@[simp] theorem State.setInFlight_memoryBus (p : Port) (l : List InFlight) :
    (s.setInFlight p l).memoryBus = s.memoryBus := rfl
@[simp] theorem State.setInFlight_responseBus (p : Port) (l : List InFlight) :
    (s.setInFlight p l).responseBus = s.responseBus := rfl
@[simp] theorem State.setInFlight_freeCount (p : Port) (l : List InFlight) :
    (s.setInFlight p l).freeCount = s.freeCount := rfl

@[simp] theorem State.setHold_pending (p : Port) (h : Option HoldSlot) : (s.setHold p h).pending = s.pending := rfl
@[simp] theorem State.setHold_resetLine (p : Port) (h : Option HoldSlot) :
    (s.setHold p h).resetLine = s.resetLine := rfl
@[simp] theorem State.setHold_portReset (p : Port) (h : Option HoldSlot) :
    (s.setHold p h).portReset = s.portReset := rfl
@[simp] theorem State.setHold_ctlBase (p : Port) (h : Option HoldSlot) : (s.setHold p h).ctlBase = s.ctlBase := rfl
@[simp] theorem State.setHold_mgmt (p : Port) (h : Option HoldSlot) : (s.setHold p h).mgmt = s.mgmt := rfl
@[simp] theorem State.setHold_time (p : Port) (h : Option HoldSlot) : (s.setHold p h).time = s.time := rfl
@[simp] theorem State.setHold_rings (p : Port) (h : Option HoldSlot) : (s.setHold p h).rings = s.rings := rfl
@[simp] theorem State.setHold_ports (p : Port) (h : Option HoldSlot) : (s.setHold p h).ports = s.ports := rfl
@[simp] theorem State.setHold_holds (p : Port) (h : Option HoldSlot) :
    (s.setHold p h).holds = s.holds.set p h := rfl
@[simp] theorem State.setHold_device (p : Port) (h : Option HoldSlot) : (s.setHold p h).device = s.device := rfl
@[simp] theorem State.setHold_queues (p : Port) (h : Option HoldSlot) : (s.setHold p h).queues = s.queues := rfl
@[simp] theorem State.setHold_units (p : Port) (h : Option HoldSlot) : (s.setHold p h).units = s.units := rfl
@[simp] theorem State.setHold_requester (p : Port) (h : Option HoldSlot) :
    (s.setHold p h).requester = s.requester := rfl
@[simp] theorem State.setHold_engine (p : Port) (h : Option HoldSlot) : (s.setHold p h).engine = s.engine := rfl
@[simp] theorem State.setHold_windowMapped (p : Port) (h : Option HoldSlot) :
    (s.setHold p h).windowMapped = s.windowMapped := rfl
@[simp] theorem State.setHold_order (p : Port) (h : Option HoldSlot) : (s.setHold p h).order = s.order := rfl
@[simp] theorem State.setHold_outstanding (p : Port) (h : Option HoldSlot) :
    (s.setHold p h).outstanding = s.outstanding := rfl
@[simp] theorem State.setHold_memoryBus (p : Port) (h : Option HoldSlot) :
    (s.setHold p h).memoryBus = s.memoryBus := rfl
@[simp] theorem State.setHold_responseBus (p : Port) (h : Option HoldSlot) :
    (s.setHold p h).responseBus = s.responseBus := rfl
@[simp] theorem State.setHold_freeCount (p : Port) (h : Option HoldSlot) :
    (s.setHold p h).freeCount = s.freeCount := rfl

@[simp] theorem State.setDevice_pending (p : Port) (k : KindSet) : (s.setDevice p k).pending = s.pending := rfl
@[simp] theorem State.setDevice_resetLine (p : Port) (k : KindSet) :
    (s.setDevice p k).resetLine = s.resetLine := rfl
@[simp] theorem State.setDevice_portReset (p : Port) (k : KindSet) :
    (s.setDevice p k).portReset = s.portReset := rfl
@[simp] theorem State.setDevice_ctlBase (p : Port) (k : KindSet) : (s.setDevice p k).ctlBase = s.ctlBase := rfl
@[simp] theorem State.setDevice_mgmt (p : Port) (k : KindSet) : (s.setDevice p k).mgmt = s.mgmt := rfl
@[simp] theorem State.setDevice_time (p : Port) (k : KindSet) : (s.setDevice p k).time = s.time := rfl
@[simp] theorem State.setDevice_rings (p : Port) (k : KindSet) : (s.setDevice p k).rings = s.rings := rfl
@[simp] theorem State.setDevice_ports (p : Port) (k : KindSet) : (s.setDevice p k).ports = s.ports := rfl
@[simp] theorem State.setDevice_holds (p : Port) (k : KindSet) : (s.setDevice p k).holds = s.holds := rfl
@[simp] theorem State.setDevice_device (p : Port) (k : KindSet) : (s.setDevice p k).device = s.device.set p k := rfl
@[simp] theorem State.setDevice_queues (p : Port) (k : KindSet) : (s.setDevice p k).queues = s.queues := rfl
@[simp] theorem State.setDevice_units (p : Port) (k : KindSet) : (s.setDevice p k).units = s.units := rfl
@[simp] theorem State.setDevice_requester (p : Port) (k : KindSet) :
    (s.setDevice p k).requester = s.requester := rfl
@[simp] theorem State.setDevice_engine (p : Port) (k : KindSet) : (s.setDevice p k).engine = s.engine := rfl
@[simp] theorem State.setDevice_windowMapped (p : Port) (k : KindSet) :
    (s.setDevice p k).windowMapped = s.windowMapped := rfl
@[simp] theorem State.setDevice_order (p : Port) (k : KindSet) : (s.setDevice p k).order = s.order := rfl
@[simp] theorem State.setDevice_outstanding (p : Port) (k : KindSet) :
    (s.setDevice p k).outstanding = s.outstanding := rfl
@[simp] theorem State.setDevice_memoryBus (p : Port) (k : KindSet) :
    (s.setDevice p k).memoryBus = s.memoryBus := rfl
@[simp] theorem State.setDevice_responseBus (p : Port) (k : KindSet) :
    (s.setDevice p k).responseBus = s.responseBus := rfl
@[simp] theorem State.setDevice_freeCount (p : Port) (k : KindSet) :
    (s.setDevice p k).freeCount = s.freeCount := rfl

@[simp] theorem State.setQueue_pending (p : Port) (q : List Source) : (s.setQueue p q).pending = s.pending := rfl
@[simp] theorem State.setQueue_resetLine (p : Port) (q : List Source) :
    (s.setQueue p q).resetLine = s.resetLine := rfl
@[simp] theorem State.setQueue_portReset (p : Port) (q : List Source) :
    (s.setQueue p q).portReset = s.portReset := rfl
@[simp] theorem State.setQueue_ctlBase (p : Port) (q : List Source) : (s.setQueue p q).ctlBase = s.ctlBase := rfl
@[simp] theorem State.setQueue_mgmt (p : Port) (q : List Source) : (s.setQueue p q).mgmt = s.mgmt := rfl
@[simp] theorem State.setQueue_time (p : Port) (q : List Source) : (s.setQueue p q).time = s.time := rfl
@[simp] theorem State.setQueue_rings (p : Port) (q : List Source) : (s.setQueue p q).rings = s.rings := rfl
@[simp] theorem State.setQueue_ports (p : Port) (q : List Source) : (s.setQueue p q).ports = s.ports := rfl
@[simp] theorem State.setQueue_holds (p : Port) (q : List Source) : (s.setQueue p q).holds = s.holds := rfl
@[simp] theorem State.setQueue_device (p : Port) (q : List Source) : (s.setQueue p q).device = s.device := rfl
@[simp] theorem State.setQueue_queues (p : Port) (q : List Source) :
    (s.setQueue p q).queues = s.queues.set p q := rfl
@[simp] theorem State.setQueue_units (p : Port) (q : List Source) : (s.setQueue p q).units = s.units := rfl
@[simp] theorem State.setQueue_requester (p : Port) (q : List Source) :
    (s.setQueue p q).requester = s.requester := rfl
@[simp] theorem State.setQueue_engine (p : Port) (q : List Source) : (s.setQueue p q).engine = s.engine := rfl
@[simp] theorem State.setQueue_windowMapped (p : Port) (q : List Source) :
    (s.setQueue p q).windowMapped = s.windowMapped := rfl
@[simp] theorem State.setQueue_order (p : Port) (q : List Source) : (s.setQueue p q).order = s.order := rfl
@[simp] theorem State.setQueue_outstanding (p : Port) (q : List Source) :
    (s.setQueue p q).outstanding = s.outstanding := rfl
@[simp] theorem State.setQueue_memoryBus (p : Port) (q : List Source) :
    (s.setQueue p q).memoryBus = s.memoryBus := rfl
@[simp] theorem State.setQueue_responseBus (p : Port) (q : List Source) :
    (s.setQueue p q).responseBus = s.responseBus := rfl
@[simp] theorem State.setQueue_freeCount (p : Port) (q : List Source) :
    (s.setQueue p q).freeCount = s.freeCount := rfl

@[simp] theorem State.setUnit_pending (p : Port) (u : Option NoticeUnit) :
    (s.setUnit p u).pending = s.pending := rfl
@[simp] theorem State.setUnit_resetLine (p : Port) (u : Option NoticeUnit) :
    (s.setUnit p u).resetLine = s.resetLine := rfl
@[simp] theorem State.setUnit_portReset (p : Port) (u : Option NoticeUnit) :
    (s.setUnit p u).portReset = s.portReset := rfl
@[simp] theorem State.setUnit_ctlBase (p : Port) (u : Option NoticeUnit) :
    (s.setUnit p u).ctlBase = s.ctlBase := rfl
@[simp] theorem State.setUnit_mgmt (p : Port) (u : Option NoticeUnit) : (s.setUnit p u).mgmt = s.mgmt := rfl
@[simp] theorem State.setUnit_time (p : Port) (u : Option NoticeUnit) : (s.setUnit p u).time = s.time := rfl
@[simp] theorem State.setUnit_rings (p : Port) (u : Option NoticeUnit) : (s.setUnit p u).rings = s.rings := rfl
@[simp] theorem State.setUnit_ports (p : Port) (u : Option NoticeUnit) : (s.setUnit p u).ports = s.ports := rfl
@[simp] theorem State.setUnit_holds (p : Port) (u : Option NoticeUnit) : (s.setUnit p u).holds = s.holds := rfl
@[simp] theorem State.setUnit_device (p : Port) (u : Option NoticeUnit) : (s.setUnit p u).device = s.device := rfl
@[simp] theorem State.setUnit_queues (p : Port) (u : Option NoticeUnit) : (s.setUnit p u).queues = s.queues := rfl
@[simp] theorem State.setUnit_units (p : Port) (u : Option NoticeUnit) :
    (s.setUnit p u).units = s.units.set p u := rfl
@[simp] theorem State.setUnit_requester (p : Port) (u : Option NoticeUnit) :
    (s.setUnit p u).requester = s.requester := rfl
@[simp] theorem State.setUnit_engine (p : Port) (u : Option NoticeUnit) : (s.setUnit p u).engine = s.engine := rfl
@[simp] theorem State.setUnit_windowMapped (p : Port) (u : Option NoticeUnit) :
    (s.setUnit p u).windowMapped = s.windowMapped := rfl
@[simp] theorem State.setUnit_order (p : Port) (u : Option NoticeUnit) : (s.setUnit p u).order = s.order := rfl
@[simp] theorem State.setUnit_outstanding (p : Port) (u : Option NoticeUnit) :
    (s.setUnit p u).outstanding = s.outstanding := rfl
@[simp] theorem State.setUnit_memoryBus (p : Port) (u : Option NoticeUnit) :
    (s.setUnit p u).memoryBus = s.memoryBus := rfl
@[simp] theorem State.setUnit_responseBus (p : Port) (u : Option NoticeUnit) :
    (s.setUnit p u).responseBus = s.responseBus := rfl
@[simp] theorem State.setUnit_freeCount (p : Port) (u : Option NoticeUnit) :
    (s.setUnit p u).freeCount = s.freeCount := rfl

@[simp] theorem State.setJob_pending (j : Option NoticeJob) : (s.setJob j).pending = s.pending := rfl
@[simp] theorem State.setJob_resetLine (j : Option NoticeJob) : (s.setJob j).resetLine = s.resetLine := rfl
@[simp] theorem State.setJob_portReset (j : Option NoticeJob) : (s.setJob j).portReset = s.portReset := rfl
@[simp] theorem State.setJob_ctlBase (j : Option NoticeJob) : (s.setJob j).ctlBase = s.ctlBase := rfl
@[simp] theorem State.setJob_mgmt (j : Option NoticeJob) : (s.setJob j).mgmt = s.mgmt := rfl
@[simp] theorem State.setJob_time (j : Option NoticeJob) : (s.setJob j).time = s.time := rfl
@[simp] theorem State.setJob_rings (j : Option NoticeJob) : (s.setJob j).rings = s.rings := rfl
@[simp] theorem State.setJob_ports (j : Option NoticeJob) : (s.setJob j).ports = s.ports := rfl
@[simp] theorem State.setJob_holds (j : Option NoticeJob) : (s.setJob j).holds = s.holds := rfl
@[simp] theorem State.setJob_device (j : Option NoticeJob) : (s.setJob j).device = s.device := rfl
@[simp] theorem State.setJob_queues (j : Option NoticeJob) : (s.setJob j).queues = s.queues := rfl
@[simp] theorem State.setJob_units (j : Option NoticeJob) : (s.setJob j).units = s.units := rfl
@[simp] theorem State.setJob_requester (j : Option NoticeJob) :
    (s.setJob j).requester = { s.requester with job := j } := rfl
@[simp] theorem State.setJob_engine (j : Option NoticeJob) : (s.setJob j).engine = s.engine := rfl
@[simp] theorem State.setJob_windowMapped (j : Option NoticeJob) : (s.setJob j).windowMapped = s.windowMapped := rfl
@[simp] theorem State.setJob_order (j : Option NoticeJob) : (s.setJob j).order = s.order := rfl
@[simp] theorem State.setJob_outstanding (j : Option NoticeJob) : (s.setJob j).outstanding = s.outstanding := rfl
@[simp] theorem State.setJob_memoryBus (j : Option NoticeJob) : (s.setJob j).memoryBus = s.memoryBus := rfl
@[simp] theorem State.setJob_responseBus (j : Option NoticeJob) : (s.setJob j).responseBus = s.responseBus := rfl
@[simp] theorem State.setJob_freeCount (j : Option NoticeJob) : (s.setJob j).freeCount = s.freeCount := rfl

@[simp] theorem State.setEngine_pending (e : Engine) : (s.setEngine e).pending = s.pending := rfl
@[simp] theorem State.setEngine_resetLine (e : Engine) : (s.setEngine e).resetLine = s.resetLine := rfl
@[simp] theorem State.setEngine_portReset (e : Engine) : (s.setEngine e).portReset = s.portReset := rfl
@[simp] theorem State.setEngine_ctlBase (e : Engine) : (s.setEngine e).ctlBase = s.ctlBase := rfl
@[simp] theorem State.setEngine_mgmt (e : Engine) : (s.setEngine e).mgmt = s.mgmt := rfl
@[simp] theorem State.setEngine_time (e : Engine) : (s.setEngine e).time = s.time := rfl
@[simp] theorem State.setEngine_rings (e : Engine) : (s.setEngine e).rings = s.rings := rfl
@[simp] theorem State.setEngine_ports (e : Engine) : (s.setEngine e).ports = s.ports := rfl
@[simp] theorem State.setEngine_holds (e : Engine) : (s.setEngine e).holds = s.holds := rfl
@[simp] theorem State.setEngine_device (e : Engine) : (s.setEngine e).device = s.device := rfl
@[simp] theorem State.setEngine_queues (e : Engine) : (s.setEngine e).queues = s.queues := rfl
@[simp] theorem State.setEngine_units (e : Engine) : (s.setEngine e).units = s.units := rfl
@[simp] theorem State.setEngine_requester (e : Engine) : (s.setEngine e).requester = s.requester := rfl
@[simp] theorem State.setEngine_engine (e : Engine) : (s.setEngine e).engine = e := rfl
@[simp] theorem State.setEngine_windowMapped (e : Engine) : (s.setEngine e).windowMapped = s.windowMapped := rfl
@[simp] theorem State.setEngine_order (e : Engine) : (s.setEngine e).order = s.order := rfl
@[simp] theorem State.setEngine_outstanding (e : Engine) : (s.setEngine e).outstanding = s.outstanding := rfl
@[simp] theorem State.setEngine_memoryBus (e : Engine) : (s.setEngine e).memoryBus = s.memoryBus := rfl
@[simp] theorem State.setEngine_responseBus (e : Engine) : (s.setEngine e).responseBus = s.responseBus := rfl
@[simp] theorem State.setEngine_freeCount (e : Engine) : (s.setEngine e).freeCount = s.freeCount := rfl

@[simp] theorem State.setOutstanding_pending (l : List OutEntry) : (s.setOutstanding l).pending = s.pending := rfl
@[simp] theorem State.setOutstanding_resetLine (l : List OutEntry) :
    (s.setOutstanding l).resetLine = s.resetLine := rfl
@[simp] theorem State.setOutstanding_portReset (l : List OutEntry) :
    (s.setOutstanding l).portReset = s.portReset := rfl
@[simp] theorem State.setOutstanding_ctlBase (l : List OutEntry) : (s.setOutstanding l).ctlBase = s.ctlBase := rfl
@[simp] theorem State.setOutstanding_mgmt (l : List OutEntry) : (s.setOutstanding l).mgmt = s.mgmt := rfl
@[simp] theorem State.setOutstanding_time (l : List OutEntry) : (s.setOutstanding l).time = s.time := rfl
@[simp] theorem State.setOutstanding_rings (l : List OutEntry) : (s.setOutstanding l).rings = s.rings := rfl
@[simp] theorem State.setOutstanding_ports (l : List OutEntry) : (s.setOutstanding l).ports = s.ports := rfl
@[simp] theorem State.setOutstanding_holds (l : List OutEntry) : (s.setOutstanding l).holds = s.holds := rfl
@[simp] theorem State.setOutstanding_device (l : List OutEntry) : (s.setOutstanding l).device = s.device := rfl
@[simp] theorem State.setOutstanding_queues (l : List OutEntry) : (s.setOutstanding l).queues = s.queues := rfl
@[simp] theorem State.setOutstanding_units (l : List OutEntry) : (s.setOutstanding l).units = s.units := rfl
@[simp] theorem State.setOutstanding_requester (l : List OutEntry) :
    (s.setOutstanding l).requester = s.requester := rfl
@[simp] theorem State.setOutstanding_engine (l : List OutEntry) : (s.setOutstanding l).engine = s.engine := rfl
@[simp] theorem State.setOutstanding_windowMapped (l : List OutEntry) :
    (s.setOutstanding l).windowMapped = s.windowMapped := rfl
@[simp] theorem State.setOutstanding_order (l : List OutEntry) : (s.setOutstanding l).order = s.order := rfl
@[simp] theorem State.setOutstanding_outstanding (l : List OutEntry) : (s.setOutstanding l).outstanding = l := rfl
@[simp] theorem State.setOutstanding_memoryBus (l : List OutEntry) :
    (s.setOutstanding l).memoryBus = s.memoryBus := rfl
@[simp] theorem State.setOutstanding_responseBus (l : List OutEntry) :
    (s.setOutstanding l).responseBus = s.responseBus := rfl
@[simp] theorem State.setOutstanding_freeCount (l : List OutEntry) :
    (s.setOutstanding l).freeCount = s.freeCount := rfl

/-! ### Ring entries -/

theorem State.ring_congr {s t : State} (h : s.rings = t.rings) (r : RingId) : s.ring r = t.ring r := by
  simp only [State.ring, h]

@[simp] theorem State.ring_set_self (l : Vector RingEntry 24) (r : RingId) (e : RingEntry) : (l.set r e).get r = e := by
  change (l.set r e)[r.val] = e
  simp

theorem State.ring_set_ne (l : Vector RingEntry 24) {r r' : RingId} (e : RingEntry) (h : r' ≠ r) :
    (l.set r e).get r' = l.get r' := by
  have : r.val ≠ r'.val := fun hv => h (Fin.ext hv.symm)
  change (l.set r e)[r'.val] = l[r'.val]
  simp [Vector.getElem_set_ne, this]

@[simp] theorem State.ring_setRing_self (r : RingId) (e : RingEntry) : (s.setRing r e).ring r = e :=
  State.ring_set_self _ _ _

theorem State.ring_setRing_ne {r r' : RingId} (e : RingEntry) (h : r' ≠ r) : (s.setRing r e).ring r' = s.ring r' :=
  State.ring_set_ne _ _ h

@[simp] theorem State.ring_setBody_self (r : RingId) (b : RingBody) :
    (s.setBody r b).ring r = { s.ring r with body := some b } := State.ring_setRing_self _ _ _

theorem State.ring_setBody_ne {r r' : RingId} (b : RingBody) (h : r' ≠ r) : (s.setBody r b).ring r' = s.ring r' :=
  State.ring_setRing_ne _ _ h

@[simp] theorem State.ring_mapRings (f : RingEntry → RingEntry) (r : RingId) :
    (s.mapRings f).ring r = f (s.ring r) := by
  change (s.rings.toList.map f)[r.val]'(by simp) = f s.rings[r.val]
  simp

/-- A ring table is determined by its entries. -/
theorem State.rings_ext {l m : Vector RingEntry 24} (h : ∀ r : RingId, l.get r = m.get r) : l = m := by
  apply Vector.ext
  intro i hi
  exact h ⟨i, hi⟩

@[simp] theorem State.rings_set_set (l : Vector RingEntry 24) (r : RingId) (e e' : RingEntry) :
    (l.set r e).set r e' = l.set r e' := by
  simp

@[simp] theorem State.rings_set_get (l : Vector RingEntry 24) (r : RingId) : l.set r (l.get r) = l := by
  change l.set r l[r.val] = l
  simp

@[simp] theorem State.mem_ringIds (r : RingId) : r ∈ ringIds := List.mem_finRange r

@[simp] theorem State.ring_setInFlight (p : Port) (l : List InFlight) (r : RingId) :
    (s.setInFlight p l).ring r = s.ring r := rfl
@[simp] theorem State.ring_setHold (p : Port) (h : Option HoldSlot) (r : RingId) :
    (s.setHold p h).ring r = s.ring r := rfl
@[simp] theorem State.ring_setDevice (p : Port) (k : KindSet) (r : RingId) :
    (s.setDevice p k).ring r = s.ring r := rfl
@[simp] theorem State.ring_setQueue (p : Port) (q : List Source) (r : RingId) :
    (s.setQueue p q).ring r = s.ring r := rfl
@[simp] theorem State.ring_setUnit (p : Port) (u : Option NoticeUnit) (r : RingId) :
    (s.setUnit p u).ring r = s.ring r := rfl
@[simp] theorem State.ring_setJob (j : Option NoticeJob) (r : RingId) : (s.setJob j).ring r = s.ring r := rfl
@[simp] theorem State.ring_setEngine (e : Engine) (r : RingId) : (s.setEngine e).ring r = s.ring r := rfl
@[simp] theorem State.ring_setOutstanding (l : List OutEntry) (r : RingId) :
    (s.setOutstanding l).ring r = s.ring r := rfl

/-! ### In-flight lists -/

@[simp] theorem State.inFlight_setRing (r : RingId) (e : RingEntry) (p : Port) :
    (s.setRing r e).inFlight p = s.inFlight p := rfl
@[simp] theorem State.inFlight_setBody (r : RingId) (b : RingBody) (p : Port) :
    (s.setBody r b).inFlight p = s.inFlight p := rfl
@[simp] theorem State.inFlight_mapRings (f : RingEntry → RingEntry) (p : Port) :
    (s.mapRings f).inFlight p = s.inFlight p := rfl
@[simp] theorem State.inFlight_setHold (q : Port) (h : Option HoldSlot) (p : Port) :
    (s.setHold q h).inFlight p = s.inFlight p := rfl
@[simp] theorem State.inFlight_setDevice (q : Port) (k : KindSet) (p : Port) :
    (s.setDevice q k).inFlight p = s.inFlight p := rfl
@[simp] theorem State.inFlight_setQueue (q : Port) (l : List Source) (p : Port) :
    (s.setQueue q l).inFlight p = s.inFlight p := rfl
@[simp] theorem State.inFlight_setUnit (q : Port) (u : Option NoticeUnit) (p : Port) :
    (s.setUnit q u).inFlight p = s.inFlight p := rfl
@[simp] theorem State.inFlight_setJob (j : Option NoticeJob) (p : Port) :
    (s.setJob j).inFlight p = s.inFlight p := rfl
@[simp] theorem State.inFlight_setEngine (e : Engine) (p : Port) : (s.setEngine e).inFlight p = s.inFlight p := rfl
@[simp] theorem State.inFlight_setOutstanding (l : List OutEntry) (p : Port) :
    (s.setOutstanding l).inFlight p = s.inFlight p := rfl

@[simp] theorem State.inFlight_setInFlight_self (p : Port) (l : List InFlight) :
    (s.setInFlight p l).inFlight p = l := by
  simp [State.inFlight]

theorem State.inFlight_setInFlight_ne {p q : Port} (l : List InFlight) (h : q ≠ p) :
    (s.setInFlight p l).inFlight q = s.inFlight q := by
  simp [State.inFlight, PerPort.get_set_ne _ _ h]

@[simp] theorem State.setInFlight_setInFlight (p : Port) (l m : List InFlight) :
    (s.setInFlight p l).setInFlight p m = s.setInFlight p m := by
  simp [State.setInFlight]

@[simp] theorem State.setInFlight_self (p : Port) : s.setInFlight p (s.inFlight p) = s := by
  change { s with ports := s.ports.set p (s.ports.get p) } = s
  simp

end Sys2Proof.Machine
end

