-- ==== Sys2Proof/Laws/Checks.lean ====
section
/-! SUPPORT. Each check of the part beside the manual's own words for it in plain numbers: the index checks (R25 to
R29), the occupancy rule (R47 to R49), the head and tail checks of the command ring and the notice rings, the
rings and protected regions an access touches (R169), and the region conditions (R4, R105). -/

namespace Sys2Proof.Machine

/-- The three index checks (R25 to R29). -/
theorem indexCheck_eq_indexVerdict (d : Descriptor) (head tail : Index) (w : IndexWord) (p : Port) (x : WriteWord) :
    indexCheck d head tail w p x = indexVerdict d head tail w p x := by
  simp only [indexCheck, indexVerdict, fullWordForm_eq_false, distance_eq_ahead, lowHalf_toNat]
  split
  · rfl
  · cases w
    · simp only [Descriptor.owner]
      by_cases hp : d.producer = p
      · subst hp; simp
      · have : ¬p = d.producer := fun hh => hp hh.symm
        simp [hp, this]
    · simp only [Descriptor.owner]
      by_cases hp : p = d.producer
      · subst hp; simp
      · have : other d.producer = p := by revert hp; cases p <;> cases d.producer <;> simp [other]
        simp [hp, this]

/-- Occupancy in the integers (R2). -/
theorem slotOccupied_eq_isOccupied {d : Descriptor} (hd : d.FieldsOk) (head tail : Index) (k : Nat) :
    slotOccupied d.slotCount head tail k = isOccupied d head tail k := by
  obtain ⟨-, ⟨e, he, -, hN⟩, -⟩ := hd
  simp only [slotOccupied, isOccupied, distance_eq_ahead]
  have h1 : (d.slotCount : Int) ∣ 65536 := by
    rw [hN]
    have he' := List.mem_range.1 he
    have : (2 : ℕ) ^ e ∣ 2 ^ 16 := pow_dvd_pow 2 (by omega)
    exact_mod_cast this
  have : (((k + 65536 - tail.toNat) % d.slotCount : Nat) : Int) = ((k : Int) - tail.toNat) % d.slotCount := by
    have := tail.isLt
    push_cast [Nat.cast_sub (show tail.toNat ≤ k + 65536 by omega)]
    obtain ⟨q, hq⟩ := h1
    rw [show (k : Int) + 65536 - tail.toNat = (k - tail.toNat) + d.slotCount * q by rw [← hq]; ring]
    exact Int.add_mul_emod_self_left _ _ _
  rw [← this, Bool.eq_iff_iff, decide_eq_true_iff, decide_eq_true_iff]
  exact Int.ofNat_lt.symm

theorem slotOf_eq_slotAt (d : Descriptor) (a : Nat) : d.slotOf a = slotAt d a := by
  simp [Descriptor.slotOf, slotAt, Nat.mul_comm]

/-- The table of R47, read along a list of slots. -/
theorem occupancy_along (d : Descriptor) (p : Port) (o : Nat → Bool) (w : Bool) (l : List Nat) (hne : l ≠ []) :
    (if p = d.producer then if (w && l.any o) = true then some ViolationKind.overwrite else none
      else if w = true then if (l.all fun k => o k && d.writeback) = true then none else some .wrongSide
      else if l.all o = true then none else some .staleRead) =
      l.findSome? fun a => slotVerdict d p w (o a) := by
  induction l with
  | nil => exact absurd rfl hne
  | cons a l ih =>
    by_cases hl : l = []
    · subst hl
      by_cases hp : p = d.producer <;> cases w <;> cases h : o a <;> cases hw : d.writeback <;>
        simp [slotVerdict, hp, h, hw]
    · have := ih hl
      by_cases hp : p = d.producer <;> cases w <;> cases h : o a <;> cases hw : d.writeback <;>
        simp [slotVerdict, hp, h, hw] at this ⊢ <;> exact this

/-- The occupancy rule slot by slot (R47 to R49). -/
theorem occupancyCheck_eq_occupancyVerdict {d : Descriptor} (hd : d.FieldsOk) (head tail : Index) (p : Port)
    (x : Access) (hne : coveredWords x ≠ []) :
    occupancyCheck d head tail p x = occupancyVerdict d head tail p x := by
  have e1 (f : Nat → Bool) :
      ((coveredWords x).map d.slotOf).dedup.any f = (coveredWords x).any fun a => f (slotAt d a) := by
    rw [Bool.eq_iff_iff]
    simp [slotOf_eq_slotAt]
  have e2 (f : Nat → Bool) :
      ((coveredWords x).map d.slotOf).dedup.all f = (coveredWords x).all fun a => f (slotAt d a) := by
    rw [Bool.eq_iff_iff]
    simp [slotOf_eq_slotAt]
  simp only [occupancyVerdict]
  rw [← occupancy_along d p (fun a => isOccupied d head tail (slotAt d a)) (isWrite x) _ hne]
  simp only [occupancyCheck, slotsTouched, distinct, e1, e2, slotOccupied_eq_isOccupied hd]

/-- An access of a ring's data area covers a word. -/
theorem coveredWords_ne_nil {s : State} {x : Access} {r : RingId} (h : classify s x = .ringData r) :
    coveredWords x ≠ [] := by
  intro hh
  simp [classify, hh] at h

/-- The check of a command head write (R123). -/
theorem headWriteValid_eq_headVerdict (s : State) (w : WriteWord) : headWriteValid s w = headVerdict s w := by
  rw [Bool.eq_iff_iff]
  simp only [headWriteValid, headVerdict, Bool.and_eq_true, fullWordForm_iff, decide_eq_true_iff, distance_eq_ahead,
    lowHalf_toNat]
  tauto

/-- The check of a notice tail write (R113). -/
theorem noticeTailValid_eq_tailVerdict (u : NoticeUnit) (w : WriteWord) : noticeTailValid u w = tailVerdict u w := by
  rw [Bool.eq_iff_iff]
  simp only [noticeTailValid, tailVerdict, Bool.and_eq_true, fullWordForm_iff, decide_eq_true_iff, distance_eq_ahead,
    lowHalf_toNat, NoticeUnit.fill]
  tauto

theorem coversWindowWord_zero (s : State) (x : Access) :
    coversWindowWord s x 0 = true ↔ (windowBase s).toNat ∈ coveredWords x := by
  simp [coversWindowWord]

/-- The rings an access touches (R169). -/
theorem ringsTouched_any (s : State) (x : Access) (f : RingEntry → Bool) :
    ((ringsTouched s x).any fun r => f (s.ring r)) = (coveredWords x).any (liesInRing s f) := by
  rw [Bool.eq_iff_iff]
  simp only [ringsTouched, List.any_eq_true, List.mem_filterMap, Option.bind_eq_some_iff]
  constructor
  · rintro ⟨r, ⟨a, ha, n, hn, hr⟩, hf⟩
    refine ⟨a, ha, ?_⟩
    cases n <;> simp [RegionName.ring?] at hr <;> subst hr <;> simp [liesInRing, hn, hf]
  · rintro ⟨a, ha, hl⟩
    unfold liesInRing at hl
    split at hl
    · exact ⟨_, ⟨a, ha, _, by assumption, rfl⟩, hl⟩
    · exact ⟨_, ⟨a, ha, _, by assumption, rfl⟩, hl⟩
    · exact absurd hl (by simp)

/-- Whether an access touches a protected region (R169). -/
theorem touchesProtected_eq (s : State) (x : Access) :
    touchesProtected s x = (coveredWords x).any (liesProtected s) := by
  simp only [touchesProtected]
  congr 1
  funext a
  simp only [liesProtected]
  rcases regionAt s a with _ | n
  · rfl
  · cases n <;> rfl

/-! ### Region conditions -/

theorem anyOverlap_eq_false (l m : List Region) :
    anyOverlap l m = false ↔ ∀ g ∈ l, ∀ h ∈ m, g.overlaps h = false := by
  simp [anyOverlap]

/-- Overlap is a common byte address (R21). -/
theorem not_contains_both {g h : Region} (hn : g.overlaps h = false) {a : Nat} (hg : g.contains a = true)
    (hh : h.contains a = true) : False := by
  simp [Region.overlaps, Region.contains] at *
  omega

/-- The region conditions of DEFINE_RING (R4, R141). -/
theorem descriptorApart_iff (s : State) (r : RingId) (d : Descriptor) :
    descriptorApart s r d = true ↔ LiesApart d.regions (reservedByOthers s r) := by
  have hp : apart d.dataArea (wordRegion d.headAddr) (wordRegion d.tailAddr) = true ↔ PairwiseApart d.regions := by
    simp [apart, PairwiseApart, Descriptor.regions]
  simp only [descriptorApart, LiesApart, reservedByOthers, Bool.and_eq_true, hp, Bool.not_eq_true',
    anyOverlap_eq_false, List.all_eq_true, Bool.or_eq_true, beq_iff_eq, List.mem_cons, List.mem_append,
    List.mem_flatMap, List.mem_filter, bne_iff_ne, State.mem_ringIds, true_and, List.not_mem_nil, or_false,
    forall_true_left, forall_eq]
  constructor
  · rintro ⟨⟨⟨⟨h1, h2⟩, h3⟩, h4⟩, h5⟩
    refine ⟨h1, fun g hg h hh => ?_⟩
    rcases hh with rfl | ⟨r', hr, hh⟩ | hh | hh
    · exact h2 g hg
    · rcases h3 r' with rfl | h3
      · exact absurd rfl hr
      · exact h3 g hg h hh
    · exact h4 g hg h hh
    · exact h5 g hg h hh
  · rintro ⟨h1, h2⟩
    refine ⟨⟨⟨⟨h1, fun g hg => h2 g hg _ (.inl rfl)⟩, fun r' => ?_⟩,
      fun g hg h hh => h2 g hg h (.inr (.inr (.inl hh)))⟩, fun g hg h hh => h2 g hg h (.inr (.inr (.inr hh)))⟩
    by_cases hr : r' = r
    · exact .inl hr
    · exact .inr fun g hg h hh => h2 g hg h (.inr (.inl ⟨r', hr, hh⟩))

/-- The region conditions of SETUP_NOTICE (R105, R156). -/
theorem unitApart_iff (s : State) (p : Port) (u : NoticeUnit) :
    unitApart s p u = true ↔ LiesApart u.regions (reservedByOtherUnits s p) := by
  have hp : apart u.dataArea (wordRegion u.headAddr) (wordRegion u.tailAddr) = true ↔ PairwiseApart u.regions := by
    simp [apart, PairwiseApart, NoticeUnit.regions]
  simp only [unitApart, LiesApart, reservedByOtherUnits, Bool.and_eq_true, hp, Bool.not_eq_true',
    anyOverlap_eq_false, List.all_eq_true, List.mem_cons, List.mem_append, List.mem_flatMap, State.mem_ringIds,
    true_and, List.not_mem_nil, or_false, forall_true_left, forall_eq]
  constructor
  · rintro ⟨⟨⟨h1, h2⟩, h3⟩, h4⟩
    refine ⟨h1, fun g hg h hh => ?_⟩
    rcases hh with rfl | ⟨r', hh⟩ | hh
    · exact h2 g hg
    · exact h3 r' g hg h hh
    · exact h4 g hg h hh
  · rintro ⟨h1, h2⟩
    exact ⟨⟨⟨h1, fun g hg => h2 g hg _ (.inl rfl)⟩, fun r' g hg h hh => h2 g hg h (.inr (.inl ⟨r', hh⟩))⟩,
      fun g hg h hh => h2 g hg h (.inr (.inr hh))⟩

/-! ### Parameters -/

theorem flagOfField_eq (n : Nat) :
    flagOfField n = if n = 0 then some false else if n = 1 then some true else none := by
  unfold flagOfField
  split <;> simp_all

/-- SET_MARKS' fields (R148). -/
theorem parseMarks_eq (n : Nat) (w : Params) :
    parseMarks n w = if MarksOk n w then some (markOf w.w2 w.w3, markOf w.w4 w.w5) else none := by
  have hm (f v : Word) (lo hi : Nat) :
      parseMark f v lo hi =
        if f.toNat = 0 then some none
        else if f.toNat = 1 ∧ lo ≤ v.toNat ∧ v.toNat ≤ hi then some (some v.toNat) else none := by
    simp only [parseMark, flagOfField_eq, inRange]
    by_cases h : f.toNat = 0 <;> by_cases h1 : f.toNat = 1 <;> by_cases h2 : lo ≤ v.toNat ∧ v.toNat ≤ hi <;>
      simp_all
  simp only [parseMarks, hm, MarksOk, markOf]
  generalize w.w2.toNat = a
  generalize w.w3.toNat = b
  generalize w.w4.toNat = c
  generalize w.w5.toNat = e
  by_cases a0 : a = 0 <;> by_cases a1 : a = 1 <;> by_cases c0 : c = 0 <;> by_cases c1 : c = 1 <;> (try omega) <;>
    (try subst a) <;> (try subst c) <;> simp_all
  · by_cases h : e ≤ n - 1 <;> simp [h]
  · by_cases h : 1 ≤ b ∧ b ≤ n <;> simp [h]
  · by_cases h : 1 ≤ b ∧ b ≤ n <;> by_cases h' : e ≤ n - 1 <;> simp [h, h']

/-- SETUP_NOTICE's fields (R105, R156). -/
theorem parseUnit_eq (w : Params) : parseUnit w = if GeometryOk w then some (unitOf w) else none := by
  simp only [parseUnit, inRange, alignedAddr, withinSpace, GeometryOk, unitOf]
  by_cases a : w.w2.toNat % 32 = 0 <;> by_cases b : 2 ≤ w.w3.toNat ∧ w.w3.toNat ≤ 10 <;>
    by_cases c : w.w2.toNat + 2 ^ w.w3.toNat * 32 ≤ 2 ^ 32 <;> by_cases d : w.w4.toNat % 4 = 0 <;>
    by_cases e : w.w5.toNat % 4 = 0 <;>
    simp only [a, b, c, d, e, and_true, and_false, if_true, if_false, Option.bind_eq_bind, Option.bind_some,
      Option.bind_none, Option.pure_def]

end Sys2Proof.Machine
end

