-- ==== Sys2Proof/Laws/Codes.lean ====
section
/-! SUPPORT. The codes the part writes are the numbers of 10.1 and 10.3 (R181, R183), said once for each kind of
code. -/

namespace Sys2Proof.Machine

@[simp] theorem portBit_toNat (p : Port) : (portBit p).toNat = portNumber p := by cases p <;> rfl

@[simp] theorem ViolationKind.code_toNat (k : ViolationKind) : k.code.toNat = violationNumber k := by cases k <;> rfl

@[simp] theorem FaultCause.code_toNat (c : FaultCause) : c.code.toNat = faultNumber c := by cases c <;> rfl

@[simp] theorem GuardMode.code_toNat (g : GuardMode) : g.code.toNat = guardNumber g := by cases g <;> rfl

@[simp] theorem Recovery.code_toNat (r : Recovery) : r.code.toNat = recoveryNumber r := by cases r <;> rfl

@[simp] theorem HaltCause.code_toNat (c : HaltCause) : c.code.toNat = haltNumber c := by cases c <;> rfl

/-- The status word of a report (R131). -/
theorem CommandStatus.code_eq (status : CommandStatus) : status.code = BitVec.ofNat 32 (statusNumber status) := by
  cases status <;> rfl

/-- A ring kind's place in a kind set (10.1). -/
theorem RingKind.bit_eq (k : RingKind) : k.bit = BitVec.ofNat 6 (2 ^ kindBit k) := by cases k <;> rfl

/-- A mask leaves a kind out when its bit is 0 (R90, 10.1). -/
theorem mask_excludes (m : KindSet) (k : RingKind) : m &&& k.bit = 0 ↔ m.getLsbD (kindBit k) = false := by
  cases k <;> (revert m; decide)

end Sys2Proof.Machine
end

