-- ==== Sys2Proof/Laws/Engine.lean ====
section
/-! SUPPORT. What the engine's reports (R129 to R131), waits (R130) and presented accesses do, and how a
fetched command of a known code executes (R137, R184). -/

namespace Sys2Proof.Machine

/-- The command of a code byte that is no command (R184). -/
theorem commandOfCode_undefined {code : Nat} (hlt : code < 256) (h : code = 0 ∨ 14 ≤ code) :
    commandOfCode (BitVec.ofNat 8 code) = none := by
  have hn : (BitVec.ofNat 8 code).toNat = code := by simp; omega
  simp only [commandOfCode, hn]
  split <;> first | rfl | omega

/-- What `Executes` says to the command definitions. -/
theorem Executes.facts {s : State} {code operand : Nat} {c : CurrentCommand} (h : Executes s code operand c) :
    executing s = some c ∧ codeOf c.words = commandOfCode (BitVec.ofNat 8 code) ∧
      (operandOf c.words).toNat = operand ∧ s.engine.current = some c ∧ code < 256 := by
  obtain ⟨h1, h2, h3, h4⟩ := h
  refine ⟨by simp [executing, h1, h2], ?_, by simpa [operandOf, byteOf] using h4, h2, ?_⟩
  · have : byteOf c.words.w0 0 = BitVec.ofNat 8 code := by
      apply BitVec.eq_of_toNat_eq
      simp [byteOf] at *
      omega
    simp [codeOf, this]
  · rw [← h3]
    exact BitVec.isLt _

theorem ringOperand_of {w : SlotWords} {r : RingId} (h : (operandOf w).toNat = r.val) : ringOperand w = some r := by
  simp [ringOperand, h]

theorem ringOperand_none {w : SlotWords} (h : 24 ≤ (operandOf w).toNat) : ringOperand w = none := by
  simp [ringOperand]
  omega

theorem portOperand_of {w : SlotWords} {p : Port} (h : (operandOf w).toNat = portNumber p) :
    portOperand w = some p := by
  cases p <;> simp [portOperand, h, portNumber, portOfField]

theorem portOperand_none {w : SlotWords} (h : 2 ≤ (operandOf w).toNat) : portOperand w = none := by
  simp only [portOperand, portOfField]
  split <;> first | rfl | omega

theorem partWrite_eq_fullWrite (addr : Word) (words : List Word) : partWrite addr words = fullWrite addr words := rfl

/-- The address of a slot (R121). -/
theorem slotAddr_eq (s : State) (i : Index) :
    slotAddr s i = windowBase s + BitVec.ofNat 32 (16 + 32 * (i.toNat % 32)) := rfl

/-- The address of a report burst (R131). -/
theorem slotAddr_add_four (s : State) (i : Index) :
    slotAddr s i + 4 = windowBase s + BitVec.ofNat 32 (20 + 32 * (i.toNat % 32)) := by
  rw [slotAddr_eq, BitVec.add_assoc]
  congr 1
  apply BitVec.eq_of_toNat_eq
  simp
  omega

/-- The reporting engine depends on the engine and the window base alone. -/
theorem reporting_congr {s t : State} (he : t.engine = s.engine) (hb : t.ctlBase = s.ctlBase) :
    reporting t = reporting s := by
  funext c status words
  simp only [reporting, windowBase, he, hb]

/-- A report of the current command (R129, R131). -/
theorem report_of_current {s : State} {c : CurrentCommand} (h : s.engine.current = some c) (status : CommandStatus)
    (words : Params) : report status words s = { s with engine := reporting s c status words } := by
  simp only [report, h, presentEngine, reporting, reportBurst, slotAddr_add_four, CommandStatus.code_eq,
    partWrite_eq_fullWrite, paramList,
    State.setEngine]

/-- A command finished at once (R129). -/
theorem finish_of_current {s : State} {c : CurrentCommand} (h : s.engine.current = some c) (status : CommandStatus) :
    finish status s = { s with engine := reporting s c status c.words.params } := by
  simp [finish, report_of_current h, fetchedParams, h]

/-- The settling of a wait (R130). -/
theorem settleWait_eq (s : State) (w : EngineWait) (status : CommandStatus) (words : Params) :
    settleWait w status words s = { s with engine := settled s w status words } := by
  unfold settleWait settled
  split
  · cases h : s.engine.current with
    | none => simp [report, h]
    | some c => simp [report_of_current h]
  · rfl

/-- The performance of a command whose code is its own (R137). -/
theorem performing_of {s : State} {c : CurrentCommand} {k : CommandCode} (act : SlotWords → State → State)
    (he : executing s = some c) (hk : codeOf c.words = some k) : performing k act s = act c.words s := by
  simp [performing, he, hk]

end Sys2Proof.Machine
end

