-- ==== Sys2Proof/Laws/Frames.lean ====
section
/-! SUPPORT. What each shared operation leaves alone: for each, one lemma that the state after it is the state
before it in every field but those named, and one lemma a field, so that no proof unfolds the operation to
read a field it does not touch. -/

namespace Sys2Proof.Machine

variable (s : State)

/-- Replacing a pending set changes the ring table or the DEVICE sets alone (R93). -/
theorem setPendingSet_frame (src : Source) (p : Port) (k : KindSet) :
    setPendingSet src p k s =
      { s with
        rings := (setPendingSet src p k s).rings
        device := (setPendingSet src p k s).device } := by
  cases src <;> rfl

@[simp] theorem setPendingSet_pending (src : Source) (p : Port) (k : KindSet) : (setPendingSet src p k s).pending = s.pending := by
  rw [setPendingSet_frame]
@[simp] theorem setPendingSet_resetLine (src : Source) (p : Port) (k : KindSet) : (setPendingSet src p k s).resetLine = s.resetLine := by
  rw [setPendingSet_frame]
@[simp] theorem setPendingSet_portReset (src : Source) (p : Port) (k : KindSet) : (setPendingSet src p k s).portReset = s.portReset := by
  rw [setPendingSet_frame]
@[simp] theorem setPendingSet_ctlBase (src : Source) (p : Port) (k : KindSet) : (setPendingSet src p k s).ctlBase = s.ctlBase := by
  rw [setPendingSet_frame]
@[simp] theorem setPendingSet_mgmt (src : Source) (p : Port) (k : KindSet) : (setPendingSet src p k s).mgmt = s.mgmt := by
  rw [setPendingSet_frame]
@[simp] theorem setPendingSet_time (src : Source) (p : Port) (k : KindSet) : (setPendingSet src p k s).time = s.time := by
  rw [setPendingSet_frame]
@[simp] theorem setPendingSet_ports (src : Source) (p : Port) (k : KindSet) : (setPendingSet src p k s).ports = s.ports := by
  rw [setPendingSet_frame]
@[simp] theorem setPendingSet_holds (src : Source) (p : Port) (k : KindSet) : (setPendingSet src p k s).holds = s.holds := by
  rw [setPendingSet_frame]
@[simp] theorem setPendingSet_queues (src : Source) (p : Port) (k : KindSet) : (setPendingSet src p k s).queues = s.queues := by
  rw [setPendingSet_frame]
@[simp] theorem setPendingSet_units (src : Source) (p : Port) (k : KindSet) : (setPendingSet src p k s).units = s.units := by
  rw [setPendingSet_frame]
@[simp] theorem setPendingSet_requester (src : Source) (p : Port) (k : KindSet) : (setPendingSet src p k s).requester = s.requester := by
  rw [setPendingSet_frame]
@[simp] theorem setPendingSet_engine (src : Source) (p : Port) (k : KindSet) : (setPendingSet src p k s).engine = s.engine := by
  rw [setPendingSet_frame]
@[simp] theorem setPendingSet_windowMapped (src : Source) (p : Port) (k : KindSet) : (setPendingSet src p k s).windowMapped = s.windowMapped := by
  rw [setPendingSet_frame]
@[simp] theorem setPendingSet_order (src : Source) (p : Port) (k : KindSet) : (setPendingSet src p k s).order = s.order := by
  rw [setPendingSet_frame]
@[simp] theorem setPendingSet_outstanding (src : Source) (p : Port) (k : KindSet) : (setPendingSet src p k s).outstanding = s.outstanding := by
  rw [setPendingSet_frame]
@[simp] theorem setPendingSet_memoryBus (src : Source) (p : Port) (k : KindSet) : (setPendingSet src p k s).memoryBus = s.memoryBus := by
  rw [setPendingSet_frame]
@[simp] theorem setPendingSet_responseBus (src : Source) (p : Port) (k : KindSet) : (setPendingSet src p k s).responseBus = s.responseBus := by
  rw [setPendingSet_frame]
@[simp] theorem setPendingSet_freeCount (src : Source) (p : Port) (k : KindSet) : (setPendingSet src p k s).freeCount = s.freeCount := by
  rw [setPendingSet_frame]
@[simp] theorem setPendingSet_inFlight (src : Source) (q : Port) (k : KindSet) (p : Port) : (setPendingSet src q k s).inFlight p = s.inFlight p := by
  simp [State.inFlight]

/-- Leaving a queue changes the queues alone (R95). -/
theorem dequeue_frame (src : Source) (p : Port) :
    dequeue src p s =
      { s with
        queues := (dequeue src p s).queues } := by
  rfl

@[simp] theorem dequeue_pending (src : Source) (p : Port) : (dequeue src p s).pending = s.pending := by
  rw [dequeue_frame]
@[simp] theorem dequeue_resetLine (src : Source) (p : Port) : (dequeue src p s).resetLine = s.resetLine := by
  rw [dequeue_frame]
@[simp] theorem dequeue_portReset (src : Source) (p : Port) : (dequeue src p s).portReset = s.portReset := by
  rw [dequeue_frame]
@[simp] theorem dequeue_ctlBase (src : Source) (p : Port) : (dequeue src p s).ctlBase = s.ctlBase := by
  rw [dequeue_frame]
@[simp] theorem dequeue_mgmt (src : Source) (p : Port) : (dequeue src p s).mgmt = s.mgmt := by
  rw [dequeue_frame]
@[simp] theorem dequeue_time (src : Source) (p : Port) : (dequeue src p s).time = s.time := by
  rw [dequeue_frame]
@[simp] theorem dequeue_rings (src : Source) (p : Port) : (dequeue src p s).rings = s.rings := by
  rw [dequeue_frame]
@[simp] theorem dequeue_ports (src : Source) (p : Port) : (dequeue src p s).ports = s.ports := by
  rw [dequeue_frame]
@[simp] theorem dequeue_holds (src : Source) (p : Port) : (dequeue src p s).holds = s.holds := by
  rw [dequeue_frame]
@[simp] theorem dequeue_device (src : Source) (p : Port) : (dequeue src p s).device = s.device := by
  rw [dequeue_frame]
@[simp] theorem dequeue_units (src : Source) (p : Port) : (dequeue src p s).units = s.units := by
  rw [dequeue_frame]
@[simp] theorem dequeue_requester (src : Source) (p : Port) : (dequeue src p s).requester = s.requester := by
  rw [dequeue_frame]
@[simp] theorem dequeue_engine (src : Source) (p : Port) : (dequeue src p s).engine = s.engine := by
  rw [dequeue_frame]
@[simp] theorem dequeue_windowMapped (src : Source) (p : Port) : (dequeue src p s).windowMapped = s.windowMapped := by
  rw [dequeue_frame]
@[simp] theorem dequeue_order (src : Source) (p : Port) : (dequeue src p s).order = s.order := by
  rw [dequeue_frame]
@[simp] theorem dequeue_outstanding (src : Source) (p : Port) : (dequeue src p s).outstanding = s.outstanding := by
  rw [dequeue_frame]
@[simp] theorem dequeue_memoryBus (src : Source) (p : Port) : (dequeue src p s).memoryBus = s.memoryBus := by
  rw [dequeue_frame]
@[simp] theorem dequeue_responseBus (src : Source) (p : Port) : (dequeue src p s).responseBus = s.responseBus := by
  rw [dequeue_frame]
@[simp] theorem dequeue_freeCount (src : Source) (p : Port) : (dequeue src p s).freeCount = s.freeCount := by
  rw [dequeue_frame]
@[simp] theorem dequeue_ring (src : Source) (p : Port) (i : RingId) : (dequeue src p s).ring i = s.ring i :=
  State.ring_congr (dequeue_rings s src p) i
@[simp] theorem dequeue_inFlight (src : Source) (q : Port) (p : Port) : (dequeue src q s).inFlight p = s.inFlight p := by
  simp [State.inFlight]

/-- Raising changes pending sets and queues alone (R93). -/
theorem raise_frame (src : Source) (p : Port) (k : KindSet) :
    raise src p k s =
      { s with
        rings := (raise src p k s).rings
        device := (raise src p k s).device
        queues := (raise src p k s).queues } := by
  cases src <;> simp only [raise] <;> split <;> rfl

@[simp] theorem raise_pending (src : Source) (p : Port) (k : KindSet) : (raise src p k s).pending = s.pending := by
  rw [raise_frame]
@[simp] theorem raise_resetLine (src : Source) (p : Port) (k : KindSet) : (raise src p k s).resetLine = s.resetLine := by
  rw [raise_frame]
@[simp] theorem raise_portReset (src : Source) (p : Port) (k : KindSet) : (raise src p k s).portReset = s.portReset := by
  rw [raise_frame]
@[simp] theorem raise_ctlBase (src : Source) (p : Port) (k : KindSet) : (raise src p k s).ctlBase = s.ctlBase := by
  rw [raise_frame]
@[simp] theorem raise_mgmt (src : Source) (p : Port) (k : KindSet) : (raise src p k s).mgmt = s.mgmt := by
  rw [raise_frame]
@[simp] theorem raise_time (src : Source) (p : Port) (k : KindSet) : (raise src p k s).time = s.time := by
  rw [raise_frame]
@[simp] theorem raise_ports (src : Source) (p : Port) (k : KindSet) : (raise src p k s).ports = s.ports := by
  rw [raise_frame]
@[simp] theorem raise_holds (src : Source) (p : Port) (k : KindSet) : (raise src p k s).holds = s.holds := by
  rw [raise_frame]
@[simp] theorem raise_units (src : Source) (p : Port) (k : KindSet) : (raise src p k s).units = s.units := by
  rw [raise_frame]
@[simp] theorem raise_requester (src : Source) (p : Port) (k : KindSet) : (raise src p k s).requester = s.requester := by
  rw [raise_frame]
@[simp] theorem raise_engine (src : Source) (p : Port) (k : KindSet) : (raise src p k s).engine = s.engine := by
  rw [raise_frame]
@[simp] theorem raise_windowMapped (src : Source) (p : Port) (k : KindSet) : (raise src p k s).windowMapped = s.windowMapped := by
  rw [raise_frame]
@[simp] theorem raise_order (src : Source) (p : Port) (k : KindSet) : (raise src p k s).order = s.order := by
  rw [raise_frame]
@[simp] theorem raise_outstanding (src : Source) (p : Port) (k : KindSet) : (raise src p k s).outstanding = s.outstanding := by
  rw [raise_frame]
@[simp] theorem raise_memoryBus (src : Source) (p : Port) (k : KindSet) : (raise src p k s).memoryBus = s.memoryBus := by
  rw [raise_frame]
@[simp] theorem raise_responseBus (src : Source) (p : Port) (k : KindSet) : (raise src p k s).responseBus = s.responseBus := by
  rw [raise_frame]
@[simp] theorem raise_freeCount (src : Source) (p : Port) (k : KindSet) : (raise src p k s).freeCount = s.freeCount := by
  rw [raise_frame]
@[simp] theorem raise_inFlight (src : Source) (q : Port) (k : KindSet) (p : Port) : (raise src q k s).inFlight p = s.inFlight p := by
  simp [State.inFlight]

/-- Raising a ring kind changes pending sets and queues alone (R90). -/
theorem raiseRing_frame (r : RingId) (k : RingKind) :
    raiseRing r k s =
      { s with
        rings := (raiseRing r k s).rings
        device := (raiseRing r k s).device
        queues := (raiseRing r k s).queues } := by
  unfold raiseRing
  split
  · rfl
  · split
    · rfl
    · exact raise_frame s _ _ _

@[simp] theorem raiseRing_pending (r : RingId) (k : RingKind) : (raiseRing r k s).pending = s.pending := by
  rw [raiseRing_frame]
@[simp] theorem raiseRing_resetLine (r : RingId) (k : RingKind) : (raiseRing r k s).resetLine = s.resetLine := by
  rw [raiseRing_frame]
@[simp] theorem raiseRing_portReset (r : RingId) (k : RingKind) : (raiseRing r k s).portReset = s.portReset := by
  rw [raiseRing_frame]
@[simp] theorem raiseRing_ctlBase (r : RingId) (k : RingKind) : (raiseRing r k s).ctlBase = s.ctlBase := by
  rw [raiseRing_frame]
@[simp] theorem raiseRing_mgmt (r : RingId) (k : RingKind) : (raiseRing r k s).mgmt = s.mgmt := by
  rw [raiseRing_frame]
@[simp] theorem raiseRing_time (r : RingId) (k : RingKind) : (raiseRing r k s).time = s.time := by
  rw [raiseRing_frame]
@[simp] theorem raiseRing_ports (r : RingId) (k : RingKind) : (raiseRing r k s).ports = s.ports := by
  rw [raiseRing_frame]
@[simp] theorem raiseRing_holds (r : RingId) (k : RingKind) : (raiseRing r k s).holds = s.holds := by
  rw [raiseRing_frame]
@[simp] theorem raiseRing_units (r : RingId) (k : RingKind) : (raiseRing r k s).units = s.units := by
  rw [raiseRing_frame]
@[simp] theorem raiseRing_requester (r : RingId) (k : RingKind) : (raiseRing r k s).requester = s.requester := by
  rw [raiseRing_frame]
@[simp] theorem raiseRing_engine (r : RingId) (k : RingKind) : (raiseRing r k s).engine = s.engine := by
  rw [raiseRing_frame]
@[simp] theorem raiseRing_windowMapped (r : RingId) (k : RingKind) : (raiseRing r k s).windowMapped = s.windowMapped := by
  rw [raiseRing_frame]
@[simp] theorem raiseRing_order (r : RingId) (k : RingKind) : (raiseRing r k s).order = s.order := by
  rw [raiseRing_frame]
@[simp] theorem raiseRing_outstanding (r : RingId) (k : RingKind) : (raiseRing r k s).outstanding = s.outstanding := by
  rw [raiseRing_frame]
@[simp] theorem raiseRing_memoryBus (r : RingId) (k : RingKind) : (raiseRing r k s).memoryBus = s.memoryBus := by
  rw [raiseRing_frame]
@[simp] theorem raiseRing_responseBus (r : RingId) (k : RingKind) : (raiseRing r k s).responseBus = s.responseBus := by
  rw [raiseRing_frame]
@[simp] theorem raiseRing_freeCount (r : RingId) (k : RingKind) : (raiseRing r k s).freeCount = s.freeCount := by
  rw [raiseRing_frame]
@[simp] theorem raiseRing_inFlight (r : RingId) (k : RingKind) (p : Port) : (raiseRing r k s).inFlight p = s.inFlight p := by
  simp [State.inFlight]

/-- Raising a device kind changes pending sets and queues alone (R91). -/
theorem raiseDevice_frame (p : Port) (k : DeviceKind) :
    raiseDevice p k s =
      { s with
        rings := (raiseDevice p k s).rings
        device := (raiseDevice p k s).device
        queues := (raiseDevice p k s).queues } := by
  exact raise_frame s _ _ _

@[simp] theorem raiseDevice_pending (p : Port) (k : DeviceKind) : (raiseDevice p k s).pending = s.pending := by
  rw [raiseDevice_frame]
@[simp] theorem raiseDevice_resetLine (p : Port) (k : DeviceKind) : (raiseDevice p k s).resetLine = s.resetLine := by
  rw [raiseDevice_frame]
@[simp] theorem raiseDevice_portReset (p : Port) (k : DeviceKind) : (raiseDevice p k s).portReset = s.portReset := by
  rw [raiseDevice_frame]
@[simp] theorem raiseDevice_ctlBase (p : Port) (k : DeviceKind) : (raiseDevice p k s).ctlBase = s.ctlBase := by
  rw [raiseDevice_frame]
@[simp] theorem raiseDevice_mgmt (p : Port) (k : DeviceKind) : (raiseDevice p k s).mgmt = s.mgmt := by
  rw [raiseDevice_frame]
@[simp] theorem raiseDevice_time (p : Port) (k : DeviceKind) : (raiseDevice p k s).time = s.time := by
  rw [raiseDevice_frame]
@[simp] theorem raiseDevice_ports (p : Port) (k : DeviceKind) : (raiseDevice p k s).ports = s.ports := by
  rw [raiseDevice_frame]
@[simp] theorem raiseDevice_holds (p : Port) (k : DeviceKind) : (raiseDevice p k s).holds = s.holds := by
  rw [raiseDevice_frame]
@[simp] theorem raiseDevice_units (p : Port) (k : DeviceKind) : (raiseDevice p k s).units = s.units := by
  rw [raiseDevice_frame]
@[simp] theorem raiseDevice_requester (p : Port) (k : DeviceKind) : (raiseDevice p k s).requester = s.requester := by
  rw [raiseDevice_frame]
@[simp] theorem raiseDevice_engine (p : Port) (k : DeviceKind) : (raiseDevice p k s).engine = s.engine := by
  rw [raiseDevice_frame]
@[simp] theorem raiseDevice_windowMapped (p : Port) (k : DeviceKind) : (raiseDevice p k s).windowMapped = s.windowMapped := by
  rw [raiseDevice_frame]
@[simp] theorem raiseDevice_order (p : Port) (k : DeviceKind) : (raiseDevice p k s).order = s.order := by
  rw [raiseDevice_frame]
@[simp] theorem raiseDevice_outstanding (p : Port) (k : DeviceKind) : (raiseDevice p k s).outstanding = s.outstanding := by
  rw [raiseDevice_frame]
@[simp] theorem raiseDevice_memoryBus (p : Port) (k : DeviceKind) : (raiseDevice p k s).memoryBus = s.memoryBus := by
  rw [raiseDevice_frame]
@[simp] theorem raiseDevice_responseBus (p : Port) (k : DeviceKind) : (raiseDevice p k s).responseBus = s.responseBus := by
  rw [raiseDevice_frame]
@[simp] theorem raiseDevice_freeCount (p : Port) (k : DeviceKind) : (raiseDevice p k s).freeCount = s.freeCount := by
  rw [raiseDevice_frame]
@[simp] theorem raiseDevice_inFlight (q : Port) (k : DeviceKind) (p : Port) : (raiseDevice q k s).inFlight p = s.inFlight p := by
  simp [State.inFlight]

/-- Counting a violation changes the ring table alone (R22). -/
theorem countViolation_frame (r : RingId) (k : ViolationKind) (p : Port) (addr : Word) :
    countViolation r k p addr s =
      { s with
        rings := (countViolation r k p addr s).rings } := by
  rfl

@[simp] theorem countViolation_pending (r : RingId) (k : ViolationKind) (p : Port) (addr : Word) : (countViolation r k p addr s).pending = s.pending := by
  rw [countViolation_frame]
@[simp] theorem countViolation_resetLine (r : RingId) (k : ViolationKind) (p : Port) (addr : Word) : (countViolation r k p addr s).resetLine = s.resetLine := by
  rw [countViolation_frame]
@[simp] theorem countViolation_portReset (r : RingId) (k : ViolationKind) (p : Port) (addr : Word) : (countViolation r k p addr s).portReset = s.portReset := by
  rw [countViolation_frame]
@[simp] theorem countViolation_ctlBase (r : RingId) (k : ViolationKind) (p : Port) (addr : Word) : (countViolation r k p addr s).ctlBase = s.ctlBase := by
  rw [countViolation_frame]
@[simp] theorem countViolation_mgmt (r : RingId) (k : ViolationKind) (p : Port) (addr : Word) : (countViolation r k p addr s).mgmt = s.mgmt := by
  rw [countViolation_frame]
@[simp] theorem countViolation_time (r : RingId) (k : ViolationKind) (p : Port) (addr : Word) : (countViolation r k p addr s).time = s.time := by
  rw [countViolation_frame]
@[simp] theorem countViolation_ports (r : RingId) (k : ViolationKind) (p : Port) (addr : Word) : (countViolation r k p addr s).ports = s.ports := by
  rw [countViolation_frame]
@[simp] theorem countViolation_holds (r : RingId) (k : ViolationKind) (p : Port) (addr : Word) : (countViolation r k p addr s).holds = s.holds := by
  rw [countViolation_frame]
@[simp] theorem countViolation_device (r : RingId) (k : ViolationKind) (p : Port) (addr : Word) : (countViolation r k p addr s).device = s.device := by
  rw [countViolation_frame]
@[simp] theorem countViolation_queues (r : RingId) (k : ViolationKind) (p : Port) (addr : Word) : (countViolation r k p addr s).queues = s.queues := by
  rw [countViolation_frame]
@[simp] theorem countViolation_units (r : RingId) (k : ViolationKind) (p : Port) (addr : Word) : (countViolation r k p addr s).units = s.units := by
  rw [countViolation_frame]
@[simp] theorem countViolation_requester (r : RingId) (k : ViolationKind) (p : Port) (addr : Word) : (countViolation r k p addr s).requester = s.requester := by
  rw [countViolation_frame]
@[simp] theorem countViolation_engine (r : RingId) (k : ViolationKind) (p : Port) (addr : Word) : (countViolation r k p addr s).engine = s.engine := by
  rw [countViolation_frame]
@[simp] theorem countViolation_windowMapped (r : RingId) (k : ViolationKind) (p : Port) (addr : Word) : (countViolation r k p addr s).windowMapped = s.windowMapped := by
  rw [countViolation_frame]
@[simp] theorem countViolation_order (r : RingId) (k : ViolationKind) (p : Port) (addr : Word) : (countViolation r k p addr s).order = s.order := by
  rw [countViolation_frame]
@[simp] theorem countViolation_outstanding (r : RingId) (k : ViolationKind) (p : Port) (addr : Word) : (countViolation r k p addr s).outstanding = s.outstanding := by
  rw [countViolation_frame]
@[simp] theorem countViolation_memoryBus (r : RingId) (k : ViolationKind) (p : Port) (addr : Word) : (countViolation r k p addr s).memoryBus = s.memoryBus := by
  rw [countViolation_frame]
@[simp] theorem countViolation_responseBus (r : RingId) (k : ViolationKind) (p : Port) (addr : Word) : (countViolation r k p addr s).responseBus = s.responseBus := by
  rw [countViolation_frame]
@[simp] theorem countViolation_freeCount (r : RingId) (k : ViolationKind) (p : Port) (addr : Word) : (countViolation r k p addr s).freeCount = s.freeCount := by
  rw [countViolation_frame]
@[simp] theorem countViolation_inFlight (r : RingId) (k : ViolationKind) (q : Port) (addr : Word) (p : Port) : (countViolation r k q addr s).inFlight p = s.inFlight p := by
  simp [State.inFlight]

/-- Charging a violation changes the ring table, pending sets and queues alone (R22, R89). -/
theorem chargeViolation_frame (r : RingId) (k : ViolationKind) (p : Port) (addr : Word) :
    chargeViolation r k p addr s =
      { s with
        rings := (chargeViolation r k p addr s).rings
        device := (chargeViolation r k p addr s).device
        queues := (chargeViolation r k p addr s).queues } := by
  have h := raiseRing_frame (countViolation r k p addr s) r .violation
  simp only [chargeViolation]
  rw [h]
  rfl

@[simp] theorem chargeViolation_pending (r : RingId) (k : ViolationKind) (p : Port) (addr : Word) : (chargeViolation r k p addr s).pending = s.pending := by
  rw [chargeViolation_frame]
@[simp] theorem chargeViolation_resetLine (r : RingId) (k : ViolationKind) (p : Port) (addr : Word) : (chargeViolation r k p addr s).resetLine = s.resetLine := by
  rw [chargeViolation_frame]
@[simp] theorem chargeViolation_portReset (r : RingId) (k : ViolationKind) (p : Port) (addr : Word) : (chargeViolation r k p addr s).portReset = s.portReset := by
  rw [chargeViolation_frame]
@[simp] theorem chargeViolation_ctlBase (r : RingId) (k : ViolationKind) (p : Port) (addr : Word) : (chargeViolation r k p addr s).ctlBase = s.ctlBase := by
  rw [chargeViolation_frame]
@[simp] theorem chargeViolation_mgmt (r : RingId) (k : ViolationKind) (p : Port) (addr : Word) : (chargeViolation r k p addr s).mgmt = s.mgmt := by
  rw [chargeViolation_frame]
@[simp] theorem chargeViolation_time (r : RingId) (k : ViolationKind) (p : Port) (addr : Word) : (chargeViolation r k p addr s).time = s.time := by
  rw [chargeViolation_frame]
@[simp] theorem chargeViolation_ports (r : RingId) (k : ViolationKind) (p : Port) (addr : Word) : (chargeViolation r k p addr s).ports = s.ports := by
  rw [chargeViolation_frame]
@[simp] theorem chargeViolation_holds (r : RingId) (k : ViolationKind) (p : Port) (addr : Word) : (chargeViolation r k p addr s).holds = s.holds := by
  rw [chargeViolation_frame]
@[simp] theorem chargeViolation_units (r : RingId) (k : ViolationKind) (p : Port) (addr : Word) : (chargeViolation r k p addr s).units = s.units := by
  rw [chargeViolation_frame]
@[simp] theorem chargeViolation_requester (r : RingId) (k : ViolationKind) (p : Port) (addr : Word) : (chargeViolation r k p addr s).requester = s.requester := by
  rw [chargeViolation_frame]
@[simp] theorem chargeViolation_engine (r : RingId) (k : ViolationKind) (p : Port) (addr : Word) : (chargeViolation r k p addr s).engine = s.engine := by
  rw [chargeViolation_frame]
@[simp] theorem chargeViolation_windowMapped (r : RingId) (k : ViolationKind) (p : Port) (addr : Word) : (chargeViolation r k p addr s).windowMapped = s.windowMapped := by
  rw [chargeViolation_frame]
@[simp] theorem chargeViolation_order (r : RingId) (k : ViolationKind) (p : Port) (addr : Word) : (chargeViolation r k p addr s).order = s.order := by
  rw [chargeViolation_frame]
@[simp] theorem chargeViolation_outstanding (r : RingId) (k : ViolationKind) (p : Port) (addr : Word) : (chargeViolation r k p addr s).outstanding = s.outstanding := by
  rw [chargeViolation_frame]
@[simp] theorem chargeViolation_memoryBus (r : RingId) (k : ViolationKind) (p : Port) (addr : Word) : (chargeViolation r k p addr s).memoryBus = s.memoryBus := by
  rw [chargeViolation_frame]
@[simp] theorem chargeViolation_responseBus (r : RingId) (k : ViolationKind) (p : Port) (addr : Word) : (chargeViolation r k p addr s).responseBus = s.responseBus := by
  rw [chargeViolation_frame]
@[simp] theorem chargeViolation_freeCount (r : RingId) (k : ViolationKind) (p : Port) (addr : Word) : (chargeViolation r k p addr s).freeCount = s.freeCount := by
  rw [chargeViolation_frame]
@[simp] theorem chargeViolation_inFlight (r : RingId) (k : ViolationKind) (q : Port) (addr : Word) (p : Port) : (chargeViolation r k q addr s).inFlight p = s.inFlight p := by
  simp [State.inFlight]

/-- Changing the records in flight changes the units alone. -/
theorem mapRecords_frame (f : RecordInFlight → RecordInFlight) :
    mapRecords f s =
      { s with
        units := (mapRecords f s).units } := by
  rfl

@[simp] theorem mapRecords_pending (f : RecordInFlight → RecordInFlight) : (mapRecords f s).pending = s.pending := by
  rw [mapRecords_frame]
@[simp] theorem mapRecords_resetLine (f : RecordInFlight → RecordInFlight) : (mapRecords f s).resetLine = s.resetLine := by
  rw [mapRecords_frame]
@[simp] theorem mapRecords_portReset (f : RecordInFlight → RecordInFlight) : (mapRecords f s).portReset = s.portReset := by
  rw [mapRecords_frame]
@[simp] theorem mapRecords_ctlBase (f : RecordInFlight → RecordInFlight) : (mapRecords f s).ctlBase = s.ctlBase := by
  rw [mapRecords_frame]
@[simp] theorem mapRecords_mgmt (f : RecordInFlight → RecordInFlight) : (mapRecords f s).mgmt = s.mgmt := by
  rw [mapRecords_frame]
@[simp] theorem mapRecords_time (f : RecordInFlight → RecordInFlight) : (mapRecords f s).time = s.time := by
  rw [mapRecords_frame]
@[simp] theorem mapRecords_rings (f : RecordInFlight → RecordInFlight) : (mapRecords f s).rings = s.rings := by
  rw [mapRecords_frame]
@[simp] theorem mapRecords_ports (f : RecordInFlight → RecordInFlight) : (mapRecords f s).ports = s.ports := by
  rw [mapRecords_frame]
@[simp] theorem mapRecords_holds (f : RecordInFlight → RecordInFlight) : (mapRecords f s).holds = s.holds := by
  rw [mapRecords_frame]
@[simp] theorem mapRecords_device (f : RecordInFlight → RecordInFlight) : (mapRecords f s).device = s.device := by
  rw [mapRecords_frame]
@[simp] theorem mapRecords_queues (f : RecordInFlight → RecordInFlight) : (mapRecords f s).queues = s.queues := by
  rw [mapRecords_frame]
@[simp] theorem mapRecords_requester (f : RecordInFlight → RecordInFlight) : (mapRecords f s).requester = s.requester := by
  rw [mapRecords_frame]
@[simp] theorem mapRecords_engine (f : RecordInFlight → RecordInFlight) : (mapRecords f s).engine = s.engine := by
  rw [mapRecords_frame]
@[simp] theorem mapRecords_windowMapped (f : RecordInFlight → RecordInFlight) : (mapRecords f s).windowMapped = s.windowMapped := by
  rw [mapRecords_frame]
@[simp] theorem mapRecords_order (f : RecordInFlight → RecordInFlight) : (mapRecords f s).order = s.order := by
  rw [mapRecords_frame]
@[simp] theorem mapRecords_outstanding (f : RecordInFlight → RecordInFlight) : (mapRecords f s).outstanding = s.outstanding := by
  rw [mapRecords_frame]
@[simp] theorem mapRecords_memoryBus (f : RecordInFlight → RecordInFlight) : (mapRecords f s).memoryBus = s.memoryBus := by
  rw [mapRecords_frame]
@[simp] theorem mapRecords_responseBus (f : RecordInFlight → RecordInFlight) : (mapRecords f s).responseBus = s.responseBus := by
  rw [mapRecords_frame]
@[simp] theorem mapRecords_freeCount (f : RecordInFlight → RecordInFlight) : (mapRecords f s).freeCount = s.freeCount := by
  rw [mapRecords_frame]
@[simp] theorem mapRecords_ring (f : RecordInFlight → RecordInFlight) (i : RingId) : (mapRecords f s).ring i = s.ring i :=
  State.ring_congr (mapRecords_rings s f) i
@[simp] theorem mapRecords_inFlight (f : RecordInFlight → RecordInFlight) (p : Port) : (mapRecords f s).inFlight p = s.inFlight p := by
  simp [State.inFlight]

/-- Forgetting a ring's kinds changes the queues and the records in flight alone (R99). -/
theorem forgetNotices_frame (r : RingId) :
    forgetNotices r s =
      { s with
        queues := (forgetNotices r s).queues
        units := (forgetNotices r s).units } := by
  rfl

@[simp] theorem forgetNotices_pending (r : RingId) : (forgetNotices r s).pending = s.pending := by
  rw [forgetNotices_frame]
@[simp] theorem forgetNotices_resetLine (r : RingId) : (forgetNotices r s).resetLine = s.resetLine := by
  rw [forgetNotices_frame]
@[simp] theorem forgetNotices_portReset (r : RingId) : (forgetNotices r s).portReset = s.portReset := by
  rw [forgetNotices_frame]
@[simp] theorem forgetNotices_ctlBase (r : RingId) : (forgetNotices r s).ctlBase = s.ctlBase := by
  rw [forgetNotices_frame]
@[simp] theorem forgetNotices_mgmt (r : RingId) : (forgetNotices r s).mgmt = s.mgmt := by
  rw [forgetNotices_frame]
@[simp] theorem forgetNotices_time (r : RingId) : (forgetNotices r s).time = s.time := by
  rw [forgetNotices_frame]
@[simp] theorem forgetNotices_rings (r : RingId) : (forgetNotices r s).rings = s.rings := by
  rw [forgetNotices_frame]
@[simp] theorem forgetNotices_ports (r : RingId) : (forgetNotices r s).ports = s.ports := by
  rw [forgetNotices_frame]
@[simp] theorem forgetNotices_holds (r : RingId) : (forgetNotices r s).holds = s.holds := by
  rw [forgetNotices_frame]
@[simp] theorem forgetNotices_device (r : RingId) : (forgetNotices r s).device = s.device := by
  rw [forgetNotices_frame]
@[simp] theorem forgetNotices_requester (r : RingId) : (forgetNotices r s).requester = s.requester := by
  rw [forgetNotices_frame]
@[simp] theorem forgetNotices_engine (r : RingId) : (forgetNotices r s).engine = s.engine := by
  rw [forgetNotices_frame]
@[simp] theorem forgetNotices_windowMapped (r : RingId) : (forgetNotices r s).windowMapped = s.windowMapped := by
  rw [forgetNotices_frame]
@[simp] theorem forgetNotices_order (r : RingId) : (forgetNotices r s).order = s.order := by
  rw [forgetNotices_frame]
@[simp] theorem forgetNotices_outstanding (r : RingId) : (forgetNotices r s).outstanding = s.outstanding := by
  rw [forgetNotices_frame]
@[simp] theorem forgetNotices_memoryBus (r : RingId) : (forgetNotices r s).memoryBus = s.memoryBus := by
  rw [forgetNotices_frame]
@[simp] theorem forgetNotices_responseBus (r : RingId) : (forgetNotices r s).responseBus = s.responseBus := by
  rw [forgetNotices_frame]
@[simp] theorem forgetNotices_freeCount (r : RingId) : (forgetNotices r s).freeCount = s.freeCount := by
  rw [forgetNotices_frame]
@[simp] theorem forgetNotices_ring (r : RingId) (i : RingId) : (forgetNotices r s).ring i = s.ring i :=
  State.ring_congr (forgetNotices_rings s r) i
@[simp] theorem forgetNotices_inFlight (r : RingId) (p : Port) : (forgetNotices r s).inFlight p = s.inFlight p := by
  simp [State.inFlight]

/-- Clearing a port's notices changes its sets and its queue alone (R100). -/
theorem clearPortNotices_frame (p : Port) :
    clearPortNotices p s =
      { s with
        rings := (clearPortNotices p s).rings
        device := (clearPortNotices p s).device
        queues := (clearPortNotices p s).queues } := by
  rfl

@[simp] theorem clearPortNotices_pending (p : Port) : (clearPortNotices p s).pending = s.pending := by
  rw [clearPortNotices_frame]
@[simp] theorem clearPortNotices_resetLine (p : Port) : (clearPortNotices p s).resetLine = s.resetLine := by
  rw [clearPortNotices_frame]
@[simp] theorem clearPortNotices_portReset (p : Port) : (clearPortNotices p s).portReset = s.portReset := by
  rw [clearPortNotices_frame]
@[simp] theorem clearPortNotices_ctlBase (p : Port) : (clearPortNotices p s).ctlBase = s.ctlBase := by
  rw [clearPortNotices_frame]
@[simp] theorem clearPortNotices_mgmt (p : Port) : (clearPortNotices p s).mgmt = s.mgmt := by
  rw [clearPortNotices_frame]
@[simp] theorem clearPortNotices_time (p : Port) : (clearPortNotices p s).time = s.time := by
  rw [clearPortNotices_frame]
@[simp] theorem clearPortNotices_ports (p : Port) : (clearPortNotices p s).ports = s.ports := by
  rw [clearPortNotices_frame]
@[simp] theorem clearPortNotices_holds (p : Port) : (clearPortNotices p s).holds = s.holds := by
  rw [clearPortNotices_frame]
@[simp] theorem clearPortNotices_units (p : Port) : (clearPortNotices p s).units = s.units := by
  rw [clearPortNotices_frame]
@[simp] theorem clearPortNotices_requester (p : Port) : (clearPortNotices p s).requester = s.requester := by
  rw [clearPortNotices_frame]
@[simp] theorem clearPortNotices_engine (p : Port) : (clearPortNotices p s).engine = s.engine := by
  rw [clearPortNotices_frame]
@[simp] theorem clearPortNotices_windowMapped (p : Port) : (clearPortNotices p s).windowMapped = s.windowMapped := by
  rw [clearPortNotices_frame]
@[simp] theorem clearPortNotices_order (p : Port) : (clearPortNotices p s).order = s.order := by
  rw [clearPortNotices_frame]
@[simp] theorem clearPortNotices_outstanding (p : Port) : (clearPortNotices p s).outstanding = s.outstanding := by
  rw [clearPortNotices_frame]
@[simp] theorem clearPortNotices_memoryBus (p : Port) : (clearPortNotices p s).memoryBus = s.memoryBus := by
  rw [clearPortNotices_frame]
@[simp] theorem clearPortNotices_responseBus (p : Port) : (clearPortNotices p s).responseBus = s.responseBus := by
  rw [clearPortNotices_frame]
@[simp] theorem clearPortNotices_freeCount (p : Port) : (clearPortNotices p s).freeCount = s.freeCount := by
  rw [clearPortNotices_frame]
@[simp] theorem clearPortNotices_inFlight (q : Port) (p : Port) : (clearPortNotices q s).inFlight p = s.inFlight p := by
  simp [State.inFlight]

/-- Changing an entry changes the in-flight lists alone. -/
theorem changeEntry_frame (p : Port) (test : InFlight → Bool) (f : InFlight → InFlight) :
    changeEntry p test f s =
      { s with
        ports := (changeEntry p test f s).ports } := by
  rfl

@[simp] theorem changeEntry_pending (p : Port) (test : InFlight → Bool) (f : InFlight → InFlight) : (changeEntry p test f s).pending = s.pending := by
  rw [changeEntry_frame]
@[simp] theorem changeEntry_resetLine (p : Port) (test : InFlight → Bool) (f : InFlight → InFlight) : (changeEntry p test f s).resetLine = s.resetLine := by
  rw [changeEntry_frame]
@[simp] theorem changeEntry_portReset (p : Port) (test : InFlight → Bool) (f : InFlight → InFlight) : (changeEntry p test f s).portReset = s.portReset := by
  rw [changeEntry_frame]
@[simp] theorem changeEntry_ctlBase (p : Port) (test : InFlight → Bool) (f : InFlight → InFlight) : (changeEntry p test f s).ctlBase = s.ctlBase := by
  rw [changeEntry_frame]
@[simp] theorem changeEntry_mgmt (p : Port) (test : InFlight → Bool) (f : InFlight → InFlight) : (changeEntry p test f s).mgmt = s.mgmt := by
  rw [changeEntry_frame]
@[simp] theorem changeEntry_time (p : Port) (test : InFlight → Bool) (f : InFlight → InFlight) : (changeEntry p test f s).time = s.time := by
  rw [changeEntry_frame]
@[simp] theorem changeEntry_rings (p : Port) (test : InFlight → Bool) (f : InFlight → InFlight) : (changeEntry p test f s).rings = s.rings := by
  rw [changeEntry_frame]
@[simp] theorem changeEntry_holds (p : Port) (test : InFlight → Bool) (f : InFlight → InFlight) : (changeEntry p test f s).holds = s.holds := by
  rw [changeEntry_frame]
@[simp] theorem changeEntry_device (p : Port) (test : InFlight → Bool) (f : InFlight → InFlight) : (changeEntry p test f s).device = s.device := by
  rw [changeEntry_frame]
@[simp] theorem changeEntry_queues (p : Port) (test : InFlight → Bool) (f : InFlight → InFlight) : (changeEntry p test f s).queues = s.queues := by
  rw [changeEntry_frame]
@[simp] theorem changeEntry_units (p : Port) (test : InFlight → Bool) (f : InFlight → InFlight) : (changeEntry p test f s).units = s.units := by
  rw [changeEntry_frame]
@[simp] theorem changeEntry_requester (p : Port) (test : InFlight → Bool) (f : InFlight → InFlight) : (changeEntry p test f s).requester = s.requester := by
  rw [changeEntry_frame]
@[simp] theorem changeEntry_engine (p : Port) (test : InFlight → Bool) (f : InFlight → InFlight) : (changeEntry p test f s).engine = s.engine := by
  rw [changeEntry_frame]
@[simp] theorem changeEntry_windowMapped (p : Port) (test : InFlight → Bool) (f : InFlight → InFlight) : (changeEntry p test f s).windowMapped = s.windowMapped := by
  rw [changeEntry_frame]
@[simp] theorem changeEntry_order (p : Port) (test : InFlight → Bool) (f : InFlight → InFlight) : (changeEntry p test f s).order = s.order := by
  rw [changeEntry_frame]
@[simp] theorem changeEntry_outstanding (p : Port) (test : InFlight → Bool) (f : InFlight → InFlight) : (changeEntry p test f s).outstanding = s.outstanding := by
  rw [changeEntry_frame]
@[simp] theorem changeEntry_memoryBus (p : Port) (test : InFlight → Bool) (f : InFlight → InFlight) : (changeEntry p test f s).memoryBus = s.memoryBus := by
  rw [changeEntry_frame]
@[simp] theorem changeEntry_responseBus (p : Port) (test : InFlight → Bool) (f : InFlight → InFlight) : (changeEntry p test f s).responseBus = s.responseBus := by
  rw [changeEntry_frame]
@[simp] theorem changeEntry_freeCount (p : Port) (test : InFlight → Bool) (f : InFlight → InFlight) : (changeEntry p test f s).freeCount = s.freeCount := by
  rw [changeEntry_frame]
@[simp] theorem changeEntry_ring (p : Port) (test : InFlight → Bool) (f : InFlight → InFlight) (i : RingId) : (changeEntry p test f s).ring i = s.ring i :=
  State.ring_congr (changeEntry_rings s p test f) i

/-- Presenting stalled requests anew changes the in-flight lists alone (R39). -/
theorem unstallAll_frame :
    unstallAll s =
      { s with
        ports := (unstallAll s).ports } := by
  rfl

@[simp] theorem unstallAll_pending : (unstallAll s).pending = s.pending := by
  rw [unstallAll_frame]
@[simp] theorem unstallAll_resetLine : (unstallAll s).resetLine = s.resetLine := by
  rw [unstallAll_frame]
@[simp] theorem unstallAll_portReset : (unstallAll s).portReset = s.portReset := by
  rw [unstallAll_frame]
@[simp] theorem unstallAll_ctlBase : (unstallAll s).ctlBase = s.ctlBase := by
  rw [unstallAll_frame]
@[simp] theorem unstallAll_mgmt : (unstallAll s).mgmt = s.mgmt := by
  rw [unstallAll_frame]
@[simp] theorem unstallAll_time : (unstallAll s).time = s.time := by
  rw [unstallAll_frame]
@[simp] theorem unstallAll_rings : (unstallAll s).rings = s.rings := by
  rw [unstallAll_frame]
@[simp] theorem unstallAll_holds : (unstallAll s).holds = s.holds := by
  rw [unstallAll_frame]
@[simp] theorem unstallAll_device : (unstallAll s).device = s.device := by
  rw [unstallAll_frame]
@[simp] theorem unstallAll_queues : (unstallAll s).queues = s.queues := by
  rw [unstallAll_frame]
@[simp] theorem unstallAll_units : (unstallAll s).units = s.units := by
  rw [unstallAll_frame]
@[simp] theorem unstallAll_requester : (unstallAll s).requester = s.requester := by
  rw [unstallAll_frame]
@[simp] theorem unstallAll_engine : (unstallAll s).engine = s.engine := by
  rw [unstallAll_frame]
@[simp] theorem unstallAll_windowMapped : (unstallAll s).windowMapped = s.windowMapped := by
  rw [unstallAll_frame]
@[simp] theorem unstallAll_order : (unstallAll s).order = s.order := by
  rw [unstallAll_frame]
@[simp] theorem unstallAll_outstanding : (unstallAll s).outstanding = s.outstanding := by
  rw [unstallAll_frame]
@[simp] theorem unstallAll_memoryBus : (unstallAll s).memoryBus = s.memoryBus := by
  rw [unstallAll_frame]
@[simp] theorem unstallAll_responseBus : (unstallAll s).responseBus = s.responseBus := by
  rw [unstallAll_frame]
@[simp] theorem unstallAll_freeCount : (unstallAll s).freeCount = s.freeCount := by
  rw [unstallAll_frame]
@[simp] theorem unstallAll_ring (i : RingId) : (unstallAll s).ring i = s.ring i :=
  State.ring_congr (unstallAll_rings s) i

/-- A release changes the hold slots and the in-flight lists alone (R74). -/
theorem releaseHeld_frame (p : Port) :
    releaseHeld p s =
      { s with
        ports := (releaseHeld p s).ports
        holds := (releaseHeld p s).holds } := by
  rfl

@[simp] theorem releaseHeld_pending (p : Port) : (releaseHeld p s).pending = s.pending := by
  rw [releaseHeld_frame]
@[simp] theorem releaseHeld_resetLine (p : Port) : (releaseHeld p s).resetLine = s.resetLine := by
  rw [releaseHeld_frame]
@[simp] theorem releaseHeld_portReset (p : Port) : (releaseHeld p s).portReset = s.portReset := by
  rw [releaseHeld_frame]
@[simp] theorem releaseHeld_ctlBase (p : Port) : (releaseHeld p s).ctlBase = s.ctlBase := by
  rw [releaseHeld_frame]
@[simp] theorem releaseHeld_mgmt (p : Port) : (releaseHeld p s).mgmt = s.mgmt := by
  rw [releaseHeld_frame]
@[simp] theorem releaseHeld_time (p : Port) : (releaseHeld p s).time = s.time := by
  rw [releaseHeld_frame]
@[simp] theorem releaseHeld_rings (p : Port) : (releaseHeld p s).rings = s.rings := by
  rw [releaseHeld_frame]
@[simp] theorem releaseHeld_device (p : Port) : (releaseHeld p s).device = s.device := by
  rw [releaseHeld_frame]
@[simp] theorem releaseHeld_queues (p : Port) : (releaseHeld p s).queues = s.queues := by
  rw [releaseHeld_frame]
@[simp] theorem releaseHeld_units (p : Port) : (releaseHeld p s).units = s.units := by
  rw [releaseHeld_frame]
@[simp] theorem releaseHeld_requester (p : Port) : (releaseHeld p s).requester = s.requester := by
  rw [releaseHeld_frame]
@[simp] theorem releaseHeld_engine (p : Port) : (releaseHeld p s).engine = s.engine := by
  rw [releaseHeld_frame]
@[simp] theorem releaseHeld_windowMapped (p : Port) : (releaseHeld p s).windowMapped = s.windowMapped := by
  rw [releaseHeld_frame]
@[simp] theorem releaseHeld_order (p : Port) : (releaseHeld p s).order = s.order := by
  rw [releaseHeld_frame]
@[simp] theorem releaseHeld_outstanding (p : Port) : (releaseHeld p s).outstanding = s.outstanding := by
  rw [releaseHeld_frame]
@[simp] theorem releaseHeld_memoryBus (p : Port) : (releaseHeld p s).memoryBus = s.memoryBus := by
  rw [releaseHeld_frame]
@[simp] theorem releaseHeld_responseBus (p : Port) : (releaseHeld p s).responseBus = s.responseBus := by
  rw [releaseHeld_frame]
@[simp] theorem releaseHeld_freeCount (p : Port) : (releaseHeld p s).freeCount = s.freeCount := by
  rw [releaseHeld_frame]
@[simp] theorem releaseHeld_ring (p : Port) (i : RingId) : (releaseHeld p s).ring i = s.ring i :=
  State.ring_congr (releaseHeld_rings s p) i

/-- A refusal changes the hold slots and the in-flight lists alone (R77). -/
theorem refuseHeld_frame (p : Port) :
    refuseHeld p s =
      { s with
        ports := (refuseHeld p s).ports
        holds := (refuseHeld p s).holds } := by
  rfl

@[simp] theorem refuseHeld_pending (p : Port) : (refuseHeld p s).pending = s.pending := by
  rw [refuseHeld_frame]
@[simp] theorem refuseHeld_resetLine (p : Port) : (refuseHeld p s).resetLine = s.resetLine := by
  rw [refuseHeld_frame]
@[simp] theorem refuseHeld_portReset (p : Port) : (refuseHeld p s).portReset = s.portReset := by
  rw [refuseHeld_frame]
@[simp] theorem refuseHeld_ctlBase (p : Port) : (refuseHeld p s).ctlBase = s.ctlBase := by
  rw [refuseHeld_frame]
@[simp] theorem refuseHeld_mgmt (p : Port) : (refuseHeld p s).mgmt = s.mgmt := by
  rw [refuseHeld_frame]
@[simp] theorem refuseHeld_time (p : Port) : (refuseHeld p s).time = s.time := by
  rw [refuseHeld_frame]
@[simp] theorem refuseHeld_rings (p : Port) : (refuseHeld p s).rings = s.rings := by
  rw [refuseHeld_frame]
@[simp] theorem refuseHeld_device (p : Port) : (refuseHeld p s).device = s.device := by
  rw [refuseHeld_frame]
@[simp] theorem refuseHeld_queues (p : Port) : (refuseHeld p s).queues = s.queues := by
  rw [refuseHeld_frame]
@[simp] theorem refuseHeld_units (p : Port) : (refuseHeld p s).units = s.units := by
  rw [refuseHeld_frame]
@[simp] theorem refuseHeld_requester (p : Port) : (refuseHeld p s).requester = s.requester := by
  rw [refuseHeld_frame]
@[simp] theorem refuseHeld_engine (p : Port) : (refuseHeld p s).engine = s.engine := by
  rw [refuseHeld_frame]
@[simp] theorem refuseHeld_windowMapped (p : Port) : (refuseHeld p s).windowMapped = s.windowMapped := by
  rw [refuseHeld_frame]
@[simp] theorem refuseHeld_order (p : Port) : (refuseHeld p s).order = s.order := by
  rw [refuseHeld_frame]
@[simp] theorem refuseHeld_outstanding (p : Port) : (refuseHeld p s).outstanding = s.outstanding := by
  rw [refuseHeld_frame]
@[simp] theorem refuseHeld_memoryBus (p : Port) : (refuseHeld p s).memoryBus = s.memoryBus := by
  rw [refuseHeld_frame]
@[simp] theorem refuseHeld_responseBus (p : Port) : (refuseHeld p s).responseBus = s.responseBus := by
  rw [refuseHeld_frame]
@[simp] theorem refuseHeld_freeCount (p : Port) : (refuseHeld p s).freeCount = s.freeCount := by
  rw [refuseHeld_frame]
@[simp] theorem refuseHeld_ring (p : Port) (i : RingId) : (refuseHeld p s).ring i = s.ring i :=
  State.ring_congr (refuseHeld_rings s p) i

/-- See `releaseHeld`. -/
theorem releaseHeldOn_frame (r : RingId) :
    releaseHeldOn r s =
      { s with
        ports := (releaseHeldOn r s).ports
        holds := (releaseHeldOn r s).holds } := by
  unfold releaseHeldOn
  split <;> rfl

@[simp] theorem releaseHeldOn_pending (r : RingId) : (releaseHeldOn r s).pending = s.pending := by
  rw [releaseHeldOn_frame]
@[simp] theorem releaseHeldOn_resetLine (r : RingId) : (releaseHeldOn r s).resetLine = s.resetLine := by
  rw [releaseHeldOn_frame]
@[simp] theorem releaseHeldOn_portReset (r : RingId) : (releaseHeldOn r s).portReset = s.portReset := by
  rw [releaseHeldOn_frame]
@[simp] theorem releaseHeldOn_ctlBase (r : RingId) : (releaseHeldOn r s).ctlBase = s.ctlBase := by
  rw [releaseHeldOn_frame]
@[simp] theorem releaseHeldOn_mgmt (r : RingId) : (releaseHeldOn r s).mgmt = s.mgmt := by
  rw [releaseHeldOn_frame]
@[simp] theorem releaseHeldOn_time (r : RingId) : (releaseHeldOn r s).time = s.time := by
  rw [releaseHeldOn_frame]
@[simp] theorem releaseHeldOn_rings (r : RingId) : (releaseHeldOn r s).rings = s.rings := by
  rw [releaseHeldOn_frame]
@[simp] theorem releaseHeldOn_device (r : RingId) : (releaseHeldOn r s).device = s.device := by
  rw [releaseHeldOn_frame]
@[simp] theorem releaseHeldOn_queues (r : RingId) : (releaseHeldOn r s).queues = s.queues := by
  rw [releaseHeldOn_frame]
@[simp] theorem releaseHeldOn_units (r : RingId) : (releaseHeldOn r s).units = s.units := by
  rw [releaseHeldOn_frame]
@[simp] theorem releaseHeldOn_requester (r : RingId) : (releaseHeldOn r s).requester = s.requester := by
  rw [releaseHeldOn_frame]
@[simp] theorem releaseHeldOn_engine (r : RingId) : (releaseHeldOn r s).engine = s.engine := by
  rw [releaseHeldOn_frame]
@[simp] theorem releaseHeldOn_windowMapped (r : RingId) : (releaseHeldOn r s).windowMapped = s.windowMapped := by
  rw [releaseHeldOn_frame]
@[simp] theorem releaseHeldOn_order (r : RingId) : (releaseHeldOn r s).order = s.order := by
  rw [releaseHeldOn_frame]
@[simp] theorem releaseHeldOn_outstanding (r : RingId) : (releaseHeldOn r s).outstanding = s.outstanding := by
  rw [releaseHeldOn_frame]
@[simp] theorem releaseHeldOn_memoryBus (r : RingId) : (releaseHeldOn r s).memoryBus = s.memoryBus := by
  rw [releaseHeldOn_frame]
@[simp] theorem releaseHeldOn_responseBus (r : RingId) : (releaseHeldOn r s).responseBus = s.responseBus := by
  rw [releaseHeldOn_frame]
@[simp] theorem releaseHeldOn_freeCount (r : RingId) : (releaseHeldOn r s).freeCount = s.freeCount := by
  rw [releaseHeldOn_frame]
@[simp] theorem releaseHeldOn_ring (r : RingId) (i : RingId) : (releaseHeldOn r s).ring i = s.ring i :=
  State.ring_congr (releaseHeldOn_rings s r) i

/-- A re-test changes the hold slots and the in-flight lists alone (R74). -/
theorem retestHeld_frame (r : RingId) :
    retestHeld r s =
      { s with
        ports := (retestHeld r s).ports
        holds := (retestHeld r s).holds } := by
  unfold retestHeld
  split
  · split
    · split <;> rfl
    · rfl
  · rfl

@[simp] theorem retestHeld_pending (r : RingId) : (retestHeld r s).pending = s.pending := by
  rw [retestHeld_frame]
@[simp] theorem retestHeld_resetLine (r : RingId) : (retestHeld r s).resetLine = s.resetLine := by
  rw [retestHeld_frame]
@[simp] theorem retestHeld_portReset (r : RingId) : (retestHeld r s).portReset = s.portReset := by
  rw [retestHeld_frame]
@[simp] theorem retestHeld_ctlBase (r : RingId) : (retestHeld r s).ctlBase = s.ctlBase := by
  rw [retestHeld_frame]
@[simp] theorem retestHeld_mgmt (r : RingId) : (retestHeld r s).mgmt = s.mgmt := by
  rw [retestHeld_frame]
@[simp] theorem retestHeld_time (r : RingId) : (retestHeld r s).time = s.time := by
  rw [retestHeld_frame]
@[simp] theorem retestHeld_rings (r : RingId) : (retestHeld r s).rings = s.rings := by
  rw [retestHeld_frame]
@[simp] theorem retestHeld_device (r : RingId) : (retestHeld r s).device = s.device := by
  rw [retestHeld_frame]
@[simp] theorem retestHeld_queues (r : RingId) : (retestHeld r s).queues = s.queues := by
  rw [retestHeld_frame]
@[simp] theorem retestHeld_units (r : RingId) : (retestHeld r s).units = s.units := by
  rw [retestHeld_frame]
@[simp] theorem retestHeld_requester (r : RingId) : (retestHeld r s).requester = s.requester := by
  rw [retestHeld_frame]
@[simp] theorem retestHeld_engine (r : RingId) : (retestHeld r s).engine = s.engine := by
  rw [retestHeld_frame]
@[simp] theorem retestHeld_windowMapped (r : RingId) : (retestHeld r s).windowMapped = s.windowMapped := by
  rw [retestHeld_frame]
@[simp] theorem retestHeld_order (r : RingId) : (retestHeld r s).order = s.order := by
  rw [retestHeld_frame]
@[simp] theorem retestHeld_outstanding (r : RingId) : (retestHeld r s).outstanding = s.outstanding := by
  rw [retestHeld_frame]
@[simp] theorem retestHeld_memoryBus (r : RingId) : (retestHeld r s).memoryBus = s.memoryBus := by
  rw [retestHeld_frame]
@[simp] theorem retestHeld_responseBus (r : RingId) : (retestHeld r s).responseBus = s.responseBus := by
  rw [retestHeld_frame]
@[simp] theorem retestHeld_freeCount (r : RingId) : (retestHeld r s).freeCount = s.freeCount := by
  rw [retestHeld_frame]
@[simp] theorem retestHeld_ring (r : RingId) (i : RingId) : (retestHeld r s).ring i = s.ring i :=
  State.ring_congr (retestHeld_rings s r) i

/-- Removing applied marks changes the outstanding list alone (R36). -/
theorem dropAppliedMarks_frame (r : RingId) :
    dropAppliedMarks r s =
      { s with
        outstanding := (dropAppliedMarks r s).outstanding } := by
  rfl

@[simp] theorem dropAppliedMarks_pending (r : RingId) : (dropAppliedMarks r s).pending = s.pending := by
  rw [dropAppliedMarks_frame]
@[simp] theorem dropAppliedMarks_resetLine (r : RingId) : (dropAppliedMarks r s).resetLine = s.resetLine := by
  rw [dropAppliedMarks_frame]
@[simp] theorem dropAppliedMarks_portReset (r : RingId) : (dropAppliedMarks r s).portReset = s.portReset := by
  rw [dropAppliedMarks_frame]
@[simp] theorem dropAppliedMarks_ctlBase (r : RingId) : (dropAppliedMarks r s).ctlBase = s.ctlBase := by
  rw [dropAppliedMarks_frame]
@[simp] theorem dropAppliedMarks_mgmt (r : RingId) : (dropAppliedMarks r s).mgmt = s.mgmt := by
  rw [dropAppliedMarks_frame]
@[simp] theorem dropAppliedMarks_time (r : RingId) : (dropAppliedMarks r s).time = s.time := by
  rw [dropAppliedMarks_frame]
@[simp] theorem dropAppliedMarks_rings (r : RingId) : (dropAppliedMarks r s).rings = s.rings := by
  rw [dropAppliedMarks_frame]
@[simp] theorem dropAppliedMarks_ports (r : RingId) : (dropAppliedMarks r s).ports = s.ports := by
  rw [dropAppliedMarks_frame]
@[simp] theorem dropAppliedMarks_holds (r : RingId) : (dropAppliedMarks r s).holds = s.holds := by
  rw [dropAppliedMarks_frame]
@[simp] theorem dropAppliedMarks_device (r : RingId) : (dropAppliedMarks r s).device = s.device := by
  rw [dropAppliedMarks_frame]
@[simp] theorem dropAppliedMarks_queues (r : RingId) : (dropAppliedMarks r s).queues = s.queues := by
  rw [dropAppliedMarks_frame]
@[simp] theorem dropAppliedMarks_units (r : RingId) : (dropAppliedMarks r s).units = s.units := by
  rw [dropAppliedMarks_frame]
@[simp] theorem dropAppliedMarks_requester (r : RingId) : (dropAppliedMarks r s).requester = s.requester := by
  rw [dropAppliedMarks_frame]
@[simp] theorem dropAppliedMarks_engine (r : RingId) : (dropAppliedMarks r s).engine = s.engine := by
  rw [dropAppliedMarks_frame]
@[simp] theorem dropAppliedMarks_windowMapped (r : RingId) : (dropAppliedMarks r s).windowMapped = s.windowMapped := by
  rw [dropAppliedMarks_frame]
@[simp] theorem dropAppliedMarks_order (r : RingId) : (dropAppliedMarks r s).order = s.order := by
  rw [dropAppliedMarks_frame]
@[simp] theorem dropAppliedMarks_memoryBus (r : RingId) : (dropAppliedMarks r s).memoryBus = s.memoryBus := by
  rw [dropAppliedMarks_frame]
@[simp] theorem dropAppliedMarks_responseBus (r : RingId) : (dropAppliedMarks r s).responseBus = s.responseBus := by
  rw [dropAppliedMarks_frame]
@[simp] theorem dropAppliedMarks_freeCount (r : RingId) : (dropAppliedMarks r s).freeCount = s.freeCount := by
  rw [dropAppliedMarks_frame]
@[simp] theorem dropAppliedMarks_ring (r : RingId) (i : RingId) : (dropAppliedMarks r s).ring i = s.ring i :=
  State.ring_congr (dropAppliedMarks_rings s r) i
@[simp] theorem dropAppliedMarks_inFlight (r : RingId) (p : Port) : (dropAppliedMarks r s).inFlight p = s.inFlight p := by
  simp [State.inFlight]

/-- What fault entry can change (R57, R58). -/
theorem faultEntry_frame (r : RingId) (cause : FaultCause) :
    faultEntry r cause s =
      { s with
        rings := (faultEntry r cause s).rings
        ports := (faultEntry r cause s).ports
        holds := (faultEntry r cause s).holds
        device := (faultEntry r cause s).device
        queues := (faultEntry r cause s).queues
        outstanding := (faultEntry r cause s).outstanding } := by
  unfold faultEntry
  split
  · split
    · rw [raiseRing_frame, releaseHeldOn_frame]
      rfl
    · rfl
  · rfl

@[simp] theorem faultEntry_pending (r : RingId) (cause : FaultCause) : (faultEntry r cause s).pending = s.pending := by
  rw [faultEntry_frame]
@[simp] theorem faultEntry_resetLine (r : RingId) (cause : FaultCause) : (faultEntry r cause s).resetLine = s.resetLine := by
  rw [faultEntry_frame]
@[simp] theorem faultEntry_portReset (r : RingId) (cause : FaultCause) : (faultEntry r cause s).portReset = s.portReset := by
  rw [faultEntry_frame]
@[simp] theorem faultEntry_ctlBase (r : RingId) (cause : FaultCause) : (faultEntry r cause s).ctlBase = s.ctlBase := by
  rw [faultEntry_frame]
@[simp] theorem faultEntry_mgmt (r : RingId) (cause : FaultCause) : (faultEntry r cause s).mgmt = s.mgmt := by
  rw [faultEntry_frame]
@[simp] theorem faultEntry_time (r : RingId) (cause : FaultCause) : (faultEntry r cause s).time = s.time := by
  rw [faultEntry_frame]
@[simp] theorem faultEntry_units (r : RingId) (cause : FaultCause) : (faultEntry r cause s).units = s.units := by
  rw [faultEntry_frame]
@[simp] theorem faultEntry_requester (r : RingId) (cause : FaultCause) : (faultEntry r cause s).requester = s.requester := by
  rw [faultEntry_frame]
@[simp] theorem faultEntry_engine (r : RingId) (cause : FaultCause) : (faultEntry r cause s).engine = s.engine := by
  rw [faultEntry_frame]
@[simp] theorem faultEntry_windowMapped (r : RingId) (cause : FaultCause) : (faultEntry r cause s).windowMapped = s.windowMapped := by
  rw [faultEntry_frame]
@[simp] theorem faultEntry_order (r : RingId) (cause : FaultCause) : (faultEntry r cause s).order = s.order := by
  rw [faultEntry_frame]
@[simp] theorem faultEntry_memoryBus (r : RingId) (cause : FaultCause) : (faultEntry r cause s).memoryBus = s.memoryBus := by
  rw [faultEntry_frame]
@[simp] theorem faultEntry_responseBus (r : RingId) (cause : FaultCause) : (faultEntry r cause s).responseBus = s.responseBus := by
  rw [faultEntry_frame]
@[simp] theorem faultEntry_freeCount (r : RingId) (cause : FaultCause) : (faultEntry r cause s).freeCount = s.freeCount := by
  rw [faultEntry_frame]

/-- Presenting an engine access changes the engine alone. -/
theorem presentEngine_frame (q : EngineRequest) :
    presentEngine q s =
      { s with
        engine := (presentEngine q s).engine } := by
  rfl

@[simp] theorem presentEngine_pending (q : EngineRequest) : (presentEngine q s).pending = s.pending := by
  rw [presentEngine_frame]
@[simp] theorem presentEngine_resetLine (q : EngineRequest) : (presentEngine q s).resetLine = s.resetLine := by
  rw [presentEngine_frame]
@[simp] theorem presentEngine_portReset (q : EngineRequest) : (presentEngine q s).portReset = s.portReset := by
  rw [presentEngine_frame]
@[simp] theorem presentEngine_ctlBase (q : EngineRequest) : (presentEngine q s).ctlBase = s.ctlBase := by
  rw [presentEngine_frame]
@[simp] theorem presentEngine_mgmt (q : EngineRequest) : (presentEngine q s).mgmt = s.mgmt := by
  rw [presentEngine_frame]
@[simp] theorem presentEngine_time (q : EngineRequest) : (presentEngine q s).time = s.time := by
  rw [presentEngine_frame]
@[simp] theorem presentEngine_rings (q : EngineRequest) : (presentEngine q s).rings = s.rings := by
  rw [presentEngine_frame]
@[simp] theorem presentEngine_ports (q : EngineRequest) : (presentEngine q s).ports = s.ports := by
  rw [presentEngine_frame]
@[simp] theorem presentEngine_holds (q : EngineRequest) : (presentEngine q s).holds = s.holds := by
  rw [presentEngine_frame]
@[simp] theorem presentEngine_device (q : EngineRequest) : (presentEngine q s).device = s.device := by
  rw [presentEngine_frame]
@[simp] theorem presentEngine_queues (q : EngineRequest) : (presentEngine q s).queues = s.queues := by
  rw [presentEngine_frame]
@[simp] theorem presentEngine_units (q : EngineRequest) : (presentEngine q s).units = s.units := by
  rw [presentEngine_frame]
@[simp] theorem presentEngine_requester (q : EngineRequest) : (presentEngine q s).requester = s.requester := by
  rw [presentEngine_frame]
@[simp] theorem presentEngine_windowMapped (q : EngineRequest) : (presentEngine q s).windowMapped = s.windowMapped := by
  rw [presentEngine_frame]
@[simp] theorem presentEngine_order (q : EngineRequest) : (presentEngine q s).order = s.order := by
  rw [presentEngine_frame]
@[simp] theorem presentEngine_outstanding (q : EngineRequest) : (presentEngine q s).outstanding = s.outstanding := by
  rw [presentEngine_frame]
@[simp] theorem presentEngine_memoryBus (q : EngineRequest) : (presentEngine q s).memoryBus = s.memoryBus := by
  rw [presentEngine_frame]
@[simp] theorem presentEngine_responseBus (q : EngineRequest) : (presentEngine q s).responseBus = s.responseBus := by
  rw [presentEngine_frame]
@[simp] theorem presentEngine_freeCount (q : EngineRequest) : (presentEngine q s).freeCount = s.freeCount := by
  rw [presentEngine_frame]
@[simp] theorem presentEngine_ring (q : EngineRequest) (i : RingId) : (presentEngine q s).ring i = s.ring i :=
  State.ring_congr (presentEngine_rings s q) i
@[simp] theorem presentEngine_inFlight (q : EngineRequest) (p : Port) : (presentEngine q s).inFlight p = s.inFlight p := by
  simp [State.inFlight]

/-- Fetching, or going idle, changes the engine alone (R127). -/
theorem fetchOrIdle_frame :
    fetchOrIdle s =
      { s with
        engine := (fetchOrIdle s).engine } := by
  unfold fetchOrIdle
  split <;> rfl

@[simp] theorem fetchOrIdle_pending : (fetchOrIdle s).pending = s.pending := by
  rw [fetchOrIdle_frame]
@[simp] theorem fetchOrIdle_resetLine : (fetchOrIdle s).resetLine = s.resetLine := by
  rw [fetchOrIdle_frame]
@[simp] theorem fetchOrIdle_portReset : (fetchOrIdle s).portReset = s.portReset := by
  rw [fetchOrIdle_frame]
@[simp] theorem fetchOrIdle_ctlBase : (fetchOrIdle s).ctlBase = s.ctlBase := by
  rw [fetchOrIdle_frame]
@[simp] theorem fetchOrIdle_mgmt : (fetchOrIdle s).mgmt = s.mgmt := by
  rw [fetchOrIdle_frame]
@[simp] theorem fetchOrIdle_time : (fetchOrIdle s).time = s.time := by
  rw [fetchOrIdle_frame]
@[simp] theorem fetchOrIdle_rings : (fetchOrIdle s).rings = s.rings := by
  rw [fetchOrIdle_frame]
@[simp] theorem fetchOrIdle_ports : (fetchOrIdle s).ports = s.ports := by
  rw [fetchOrIdle_frame]
@[simp] theorem fetchOrIdle_holds : (fetchOrIdle s).holds = s.holds := by
  rw [fetchOrIdle_frame]
@[simp] theorem fetchOrIdle_device : (fetchOrIdle s).device = s.device := by
  rw [fetchOrIdle_frame]
@[simp] theorem fetchOrIdle_queues : (fetchOrIdle s).queues = s.queues := by
  rw [fetchOrIdle_frame]
@[simp] theorem fetchOrIdle_units : (fetchOrIdle s).units = s.units := by
  rw [fetchOrIdle_frame]
@[simp] theorem fetchOrIdle_requester : (fetchOrIdle s).requester = s.requester := by
  rw [fetchOrIdle_frame]
@[simp] theorem fetchOrIdle_windowMapped : (fetchOrIdle s).windowMapped = s.windowMapped := by
  rw [fetchOrIdle_frame]
@[simp] theorem fetchOrIdle_order : (fetchOrIdle s).order = s.order := by
  rw [fetchOrIdle_frame]
@[simp] theorem fetchOrIdle_outstanding : (fetchOrIdle s).outstanding = s.outstanding := by
  rw [fetchOrIdle_frame]
@[simp] theorem fetchOrIdle_memoryBus : (fetchOrIdle s).memoryBus = s.memoryBus := by
  rw [fetchOrIdle_frame]
@[simp] theorem fetchOrIdle_responseBus : (fetchOrIdle s).responseBus = s.responseBus := by
  rw [fetchOrIdle_frame]
@[simp] theorem fetchOrIdle_freeCount : (fetchOrIdle s).freeCount = s.freeCount := by
  rw [fetchOrIdle_frame]
@[simp] theorem fetchOrIdle_ring (i : RingId) : (fetchOrIdle s).ring i = s.ring i :=
  State.ring_congr (fetchOrIdle_rings s) i
@[simp] theorem fetchOrIdle_inFlight (p : Port) : (fetchOrIdle s).inFlight p = s.inFlight p := by
  simp [State.inFlight]

/-- A report changes the engine alone (R129). -/
theorem report_frame (status : CommandStatus) (words : Params) :
    report status words s =
      { s with
        engine := (report status words s).engine } := by
  unfold report
  split <;> rfl

@[simp] theorem report_pending (status : CommandStatus) (words : Params) : (report status words s).pending = s.pending := by
  rw [report_frame]
@[simp] theorem report_resetLine (status : CommandStatus) (words : Params) : (report status words s).resetLine = s.resetLine := by
  rw [report_frame]
@[simp] theorem report_portReset (status : CommandStatus) (words : Params) : (report status words s).portReset = s.portReset := by
  rw [report_frame]
@[simp] theorem report_ctlBase (status : CommandStatus) (words : Params) : (report status words s).ctlBase = s.ctlBase := by
  rw [report_frame]
@[simp] theorem report_mgmt (status : CommandStatus) (words : Params) : (report status words s).mgmt = s.mgmt := by
  rw [report_frame]
@[simp] theorem report_time (status : CommandStatus) (words : Params) : (report status words s).time = s.time := by
  rw [report_frame]
@[simp] theorem report_rings (status : CommandStatus) (words : Params) : (report status words s).rings = s.rings := by
  rw [report_frame]
@[simp] theorem report_ports (status : CommandStatus) (words : Params) : (report status words s).ports = s.ports := by
  rw [report_frame]
@[simp] theorem report_holds (status : CommandStatus) (words : Params) : (report status words s).holds = s.holds := by
  rw [report_frame]
@[simp] theorem report_device (status : CommandStatus) (words : Params) : (report status words s).device = s.device := by
  rw [report_frame]
@[simp] theorem report_queues (status : CommandStatus) (words : Params) : (report status words s).queues = s.queues := by
  rw [report_frame]
@[simp] theorem report_units (status : CommandStatus) (words : Params) : (report status words s).units = s.units := by
  rw [report_frame]
@[simp] theorem report_requester (status : CommandStatus) (words : Params) : (report status words s).requester = s.requester := by
  rw [report_frame]
@[simp] theorem report_windowMapped (status : CommandStatus) (words : Params) : (report status words s).windowMapped = s.windowMapped := by
  rw [report_frame]
@[simp] theorem report_order (status : CommandStatus) (words : Params) : (report status words s).order = s.order := by
  rw [report_frame]
@[simp] theorem report_outstanding (status : CommandStatus) (words : Params) : (report status words s).outstanding = s.outstanding := by
  rw [report_frame]
@[simp] theorem report_memoryBus (status : CommandStatus) (words : Params) : (report status words s).memoryBus = s.memoryBus := by
  rw [report_frame]
@[simp] theorem report_responseBus (status : CommandStatus) (words : Params) : (report status words s).responseBus = s.responseBus := by
  rw [report_frame]
@[simp] theorem report_freeCount (status : CommandStatus) (words : Params) : (report status words s).freeCount = s.freeCount := by
  rw [report_frame]
@[simp] theorem report_ring (status : CommandStatus) (words : Params) (i : RingId) : (report status words s).ring i = s.ring i :=
  State.ring_congr (report_rings s status words) i
@[simp] theorem report_inFlight (status : CommandStatus) (words : Params) (p : Port) : (report status words s).inFlight p = s.inFlight p := by
  simp [State.inFlight]

/-- Settling a wait changes the engine alone (R130). -/
theorem settleWait_frame (w : EngineWait) (status : CommandStatus) (words : Params) :
    settleWait w status words s =
      { s with
        engine := (settleWait w status words s).engine } := by
  unfold settleWait
  split
  · exact report_frame s _ _
  · rfl

@[simp] theorem settleWait_pending (w : EngineWait) (status : CommandStatus) (words : Params) : (settleWait w status words s).pending = s.pending := by
  rw [settleWait_frame]
@[simp] theorem settleWait_resetLine (w : EngineWait) (status : CommandStatus) (words : Params) : (settleWait w status words s).resetLine = s.resetLine := by
  rw [settleWait_frame]
@[simp] theorem settleWait_portReset (w : EngineWait) (status : CommandStatus) (words : Params) : (settleWait w status words s).portReset = s.portReset := by
  rw [settleWait_frame]
@[simp] theorem settleWait_ctlBase (w : EngineWait) (status : CommandStatus) (words : Params) : (settleWait w status words s).ctlBase = s.ctlBase := by
  rw [settleWait_frame]
@[simp] theorem settleWait_mgmt (w : EngineWait) (status : CommandStatus) (words : Params) : (settleWait w status words s).mgmt = s.mgmt := by
  rw [settleWait_frame]
@[simp] theorem settleWait_time (w : EngineWait) (status : CommandStatus) (words : Params) : (settleWait w status words s).time = s.time := by
  rw [settleWait_frame]
@[simp] theorem settleWait_rings (w : EngineWait) (status : CommandStatus) (words : Params) : (settleWait w status words s).rings = s.rings := by
  rw [settleWait_frame]
@[simp] theorem settleWait_ports (w : EngineWait) (status : CommandStatus) (words : Params) : (settleWait w status words s).ports = s.ports := by
  rw [settleWait_frame]
@[simp] theorem settleWait_holds (w : EngineWait) (status : CommandStatus) (words : Params) : (settleWait w status words s).holds = s.holds := by
  rw [settleWait_frame]
@[simp] theorem settleWait_device (w : EngineWait) (status : CommandStatus) (words : Params) : (settleWait w status words s).device = s.device := by
  rw [settleWait_frame]
@[simp] theorem settleWait_queues (w : EngineWait) (status : CommandStatus) (words : Params) : (settleWait w status words s).queues = s.queues := by
  rw [settleWait_frame]
@[simp] theorem settleWait_units (w : EngineWait) (status : CommandStatus) (words : Params) : (settleWait w status words s).units = s.units := by
  rw [settleWait_frame]
@[simp] theorem settleWait_requester (w : EngineWait) (status : CommandStatus) (words : Params) : (settleWait w status words s).requester = s.requester := by
  rw [settleWait_frame]
@[simp] theorem settleWait_windowMapped (w : EngineWait) (status : CommandStatus) (words : Params) : (settleWait w status words s).windowMapped = s.windowMapped := by
  rw [settleWait_frame]
@[simp] theorem settleWait_order (w : EngineWait) (status : CommandStatus) (words : Params) : (settleWait w status words s).order = s.order := by
  rw [settleWait_frame]
@[simp] theorem settleWait_outstanding (w : EngineWait) (status : CommandStatus) (words : Params) : (settleWait w status words s).outstanding = s.outstanding := by
  rw [settleWait_frame]
@[simp] theorem settleWait_memoryBus (w : EngineWait) (status : CommandStatus) (words : Params) : (settleWait w status words s).memoryBus = s.memoryBus := by
  rw [settleWait_frame]
@[simp] theorem settleWait_responseBus (w : EngineWait) (status : CommandStatus) (words : Params) : (settleWait w status words s).responseBus = s.responseBus := by
  rw [settleWait_frame]
@[simp] theorem settleWait_freeCount (w : EngineWait) (status : CommandStatus) (words : Params) : (settleWait w status words s).freeCount = s.freeCount := by
  rw [settleWait_frame]
@[simp] theorem settleWait_ring (w : EngineWait) (status : CommandStatus) (words : Params) (i : RingId) : (settleWait w status words s).ring i = s.ring i :=
  State.ring_congr (settleWait_rings s w status words) i
@[simp] theorem settleWait_inFlight (w : EngineWait) (status : CommandStatus) (words : Params) (p : Port) : (settleWait w status words s).inFlight p = s.inFlight p := by
  simp [State.inFlight]

/-- What a halt can change (R133). -/
theorem haltEngine_frame (info : HaltInfo) :
    haltEngine info s =
      { s with
        rings := (haltEngine info s).rings
        device := (haltEngine info s).device
        queues := (haltEngine info s).queues
        engine := (haltEngine info s).engine
        outstanding := (haltEngine info s).outstanding } := by
  unfold haltEngine
  rw [raiseDevice_frame]
  rfl

@[simp] theorem haltEngine_pending (info : HaltInfo) : (haltEngine info s).pending = s.pending := by
  rw [haltEngine_frame]
@[simp] theorem haltEngine_resetLine (info : HaltInfo) : (haltEngine info s).resetLine = s.resetLine := by
  rw [haltEngine_frame]
@[simp] theorem haltEngine_portReset (info : HaltInfo) : (haltEngine info s).portReset = s.portReset := by
  rw [haltEngine_frame]
@[simp] theorem haltEngine_ctlBase (info : HaltInfo) : (haltEngine info s).ctlBase = s.ctlBase := by
  rw [haltEngine_frame]
@[simp] theorem haltEngine_mgmt (info : HaltInfo) : (haltEngine info s).mgmt = s.mgmt := by
  rw [haltEngine_frame]
@[simp] theorem haltEngine_time (info : HaltInfo) : (haltEngine info s).time = s.time := by
  rw [haltEngine_frame]
@[simp] theorem haltEngine_ports (info : HaltInfo) : (haltEngine info s).ports = s.ports := by
  rw [haltEngine_frame]
@[simp] theorem haltEngine_holds (info : HaltInfo) : (haltEngine info s).holds = s.holds := by
  rw [haltEngine_frame]
@[simp] theorem haltEngine_units (info : HaltInfo) : (haltEngine info s).units = s.units := by
  rw [haltEngine_frame]
@[simp] theorem haltEngine_requester (info : HaltInfo) : (haltEngine info s).requester = s.requester := by
  rw [haltEngine_frame]
@[simp] theorem haltEngine_windowMapped (info : HaltInfo) : (haltEngine info s).windowMapped = s.windowMapped := by
  rw [haltEngine_frame]
@[simp] theorem haltEngine_order (info : HaltInfo) : (haltEngine info s).order = s.order := by
  rw [haltEngine_frame]
@[simp] theorem haltEngine_memoryBus (info : HaltInfo) : (haltEngine info s).memoryBus = s.memoryBus := by
  rw [haltEngine_frame]
@[simp] theorem haltEngine_responseBus (info : HaltInfo) : (haltEngine info s).responseBus = s.responseBus := by
  rw [haltEngine_frame]
@[simp] theorem haltEngine_freeCount (info : HaltInfo) : (haltEngine info s).freeCount = s.freeCount := by
  rw [haltEngine_frame]
@[simp] theorem haltEngine_inFlight (info : HaltInfo) (p : Port) : (haltEngine info s).inFlight p = s.inFlight p := by
  simp [State.inFlight]

/-- Removing tail writes' marks changes the in-flight lists alone (R114). -/
theorem dropNoticeMarks_frame (p : Port) :
    dropNoticeMarks p s =
      { s with
        ports := (dropNoticeMarks p s).ports } := by
  rfl

@[simp] theorem dropNoticeMarks_pending (p : Port) : (dropNoticeMarks p s).pending = s.pending := by
  rw [dropNoticeMarks_frame]
@[simp] theorem dropNoticeMarks_resetLine (p : Port) : (dropNoticeMarks p s).resetLine = s.resetLine := by
  rw [dropNoticeMarks_frame]
@[simp] theorem dropNoticeMarks_portReset (p : Port) : (dropNoticeMarks p s).portReset = s.portReset := by
  rw [dropNoticeMarks_frame]
@[simp] theorem dropNoticeMarks_ctlBase (p : Port) : (dropNoticeMarks p s).ctlBase = s.ctlBase := by
  rw [dropNoticeMarks_frame]
@[simp] theorem dropNoticeMarks_mgmt (p : Port) : (dropNoticeMarks p s).mgmt = s.mgmt := by
  rw [dropNoticeMarks_frame]
@[simp] theorem dropNoticeMarks_time (p : Port) : (dropNoticeMarks p s).time = s.time := by
  rw [dropNoticeMarks_frame]
@[simp] theorem dropNoticeMarks_rings (p : Port) : (dropNoticeMarks p s).rings = s.rings := by
  rw [dropNoticeMarks_frame]
@[simp] theorem dropNoticeMarks_holds (p : Port) : (dropNoticeMarks p s).holds = s.holds := by
  rw [dropNoticeMarks_frame]
@[simp] theorem dropNoticeMarks_device (p : Port) : (dropNoticeMarks p s).device = s.device := by
  rw [dropNoticeMarks_frame]
@[simp] theorem dropNoticeMarks_queues (p : Port) : (dropNoticeMarks p s).queues = s.queues := by
  rw [dropNoticeMarks_frame]
@[simp] theorem dropNoticeMarks_units (p : Port) : (dropNoticeMarks p s).units = s.units := by
  rw [dropNoticeMarks_frame]
@[simp] theorem dropNoticeMarks_requester (p : Port) : (dropNoticeMarks p s).requester = s.requester := by
  rw [dropNoticeMarks_frame]
@[simp] theorem dropNoticeMarks_engine (p : Port) : (dropNoticeMarks p s).engine = s.engine := by
  rw [dropNoticeMarks_frame]
@[simp] theorem dropNoticeMarks_windowMapped (p : Port) : (dropNoticeMarks p s).windowMapped = s.windowMapped := by
  rw [dropNoticeMarks_frame]
@[simp] theorem dropNoticeMarks_order (p : Port) : (dropNoticeMarks p s).order = s.order := by
  rw [dropNoticeMarks_frame]
@[simp] theorem dropNoticeMarks_outstanding (p : Port) : (dropNoticeMarks p s).outstanding = s.outstanding := by
  rw [dropNoticeMarks_frame]
@[simp] theorem dropNoticeMarks_memoryBus (p : Port) : (dropNoticeMarks p s).memoryBus = s.memoryBus := by
  rw [dropNoticeMarks_frame]
@[simp] theorem dropNoticeMarks_responseBus (p : Port) : (dropNoticeMarks p s).responseBus = s.responseBus := by
  rw [dropNoticeMarks_frame]
@[simp] theorem dropNoticeMarks_freeCount (p : Port) : (dropNoticeMarks p s).freeCount = s.freeCount := by
  rw [dropNoticeMarks_frame]
@[simp] theorem dropNoticeMarks_ring (p : Port) (i : RingId) : (dropNoticeMarks p s).ring i = s.ring i :=
  State.ring_congr (dropNoticeMarks_rings s p) i

/-- A unit becoming OFF changes the units and the in-flight lists alone (R108). -/
theorem unitOff_frame (p : Port) :
    unitOff p s =
      { s with
        ports := (unitOff p s).ports
        units := (unitOff p s).units } := by
  rfl

@[simp] theorem unitOff_pending (p : Port) : (unitOff p s).pending = s.pending := by
  rw [unitOff_frame]
@[simp] theorem unitOff_resetLine (p : Port) : (unitOff p s).resetLine = s.resetLine := by
  rw [unitOff_frame]
@[simp] theorem unitOff_portReset (p : Port) : (unitOff p s).portReset = s.portReset := by
  rw [unitOff_frame]
@[simp] theorem unitOff_ctlBase (p : Port) : (unitOff p s).ctlBase = s.ctlBase := by
  rw [unitOff_frame]
@[simp] theorem unitOff_mgmt (p : Port) : (unitOff p s).mgmt = s.mgmt := by
  rw [unitOff_frame]
@[simp] theorem unitOff_time (p : Port) : (unitOff p s).time = s.time := by
  rw [unitOff_frame]
@[simp] theorem unitOff_rings (p : Port) : (unitOff p s).rings = s.rings := by
  rw [unitOff_frame]
@[simp] theorem unitOff_holds (p : Port) : (unitOff p s).holds = s.holds := by
  rw [unitOff_frame]
@[simp] theorem unitOff_device (p : Port) : (unitOff p s).device = s.device := by
  rw [unitOff_frame]
@[simp] theorem unitOff_queues (p : Port) : (unitOff p s).queues = s.queues := by
  rw [unitOff_frame]
@[simp] theorem unitOff_requester (p : Port) : (unitOff p s).requester = s.requester := by
  rw [unitOff_frame]
@[simp] theorem unitOff_engine (p : Port) : (unitOff p s).engine = s.engine := by
  rw [unitOff_frame]
@[simp] theorem unitOff_windowMapped (p : Port) : (unitOff p s).windowMapped = s.windowMapped := by
  rw [unitOff_frame]
@[simp] theorem unitOff_order (p : Port) : (unitOff p s).order = s.order := by
  rw [unitOff_frame]
@[simp] theorem unitOff_outstanding (p : Port) : (unitOff p s).outstanding = s.outstanding := by
  rw [unitOff_frame]
@[simp] theorem unitOff_memoryBus (p : Port) : (unitOff p s).memoryBus = s.memoryBus := by
  rw [unitOff_frame]
@[simp] theorem unitOff_responseBus (p : Port) : (unitOff p s).responseBus = s.responseBus := by
  rw [unitOff_frame]
@[simp] theorem unitOff_freeCount (p : Port) : (unitOff p s).freeCount = s.freeCount := by
  rw [unitOff_frame]
@[simp] theorem unitOff_ring (p : Port) (i : RingId) : (unitOff p s).ring i = s.ring i :=
  State.ring_congr (unitOff_rings s p) i

/-- Abandoning a job changes the requester and the outstanding list alone (R119). -/
theorem abandonJob_frame (p : Port) :
    abandonJob p s =
      { s with
        requester := (abandonJob p s).requester
        outstanding := (abandonJob p s).outstanding } := by
  unfold abandonJob
  split
  · split <;> rfl
  · rfl

@[simp] theorem abandonJob_pending (p : Port) : (abandonJob p s).pending = s.pending := by
  rw [abandonJob_frame]
@[simp] theorem abandonJob_resetLine (p : Port) : (abandonJob p s).resetLine = s.resetLine := by
  rw [abandonJob_frame]
@[simp] theorem abandonJob_portReset (p : Port) : (abandonJob p s).portReset = s.portReset := by
  rw [abandonJob_frame]
@[simp] theorem abandonJob_ctlBase (p : Port) : (abandonJob p s).ctlBase = s.ctlBase := by
  rw [abandonJob_frame]
@[simp] theorem abandonJob_mgmt (p : Port) : (abandonJob p s).mgmt = s.mgmt := by
  rw [abandonJob_frame]
@[simp] theorem abandonJob_time (p : Port) : (abandonJob p s).time = s.time := by
  rw [abandonJob_frame]
@[simp] theorem abandonJob_rings (p : Port) : (abandonJob p s).rings = s.rings := by
  rw [abandonJob_frame]
@[simp] theorem abandonJob_ports (p : Port) : (abandonJob p s).ports = s.ports := by
  rw [abandonJob_frame]
@[simp] theorem abandonJob_holds (p : Port) : (abandonJob p s).holds = s.holds := by
  rw [abandonJob_frame]
@[simp] theorem abandonJob_device (p : Port) : (abandonJob p s).device = s.device := by
  rw [abandonJob_frame]
@[simp] theorem abandonJob_queues (p : Port) : (abandonJob p s).queues = s.queues := by
  rw [abandonJob_frame]
@[simp] theorem abandonJob_units (p : Port) : (abandonJob p s).units = s.units := by
  rw [abandonJob_frame]
@[simp] theorem abandonJob_engine (p : Port) : (abandonJob p s).engine = s.engine := by
  rw [abandonJob_frame]
@[simp] theorem abandonJob_windowMapped (p : Port) : (abandonJob p s).windowMapped = s.windowMapped := by
  rw [abandonJob_frame]
@[simp] theorem abandonJob_order (p : Port) : (abandonJob p s).order = s.order := by
  rw [abandonJob_frame]
@[simp] theorem abandonJob_memoryBus (p : Port) : (abandonJob p s).memoryBus = s.memoryBus := by
  rw [abandonJob_frame]
@[simp] theorem abandonJob_responseBus (p : Port) : (abandonJob p s).responseBus = s.responseBus := by
  rw [abandonJob_frame]
@[simp] theorem abandonJob_freeCount (p : Port) : (abandonJob p s).freeCount = s.freeCount := by
  rw [abandonJob_frame]
@[simp] theorem abandonJob_ring (p : Port) (i : RingId) : (abandonJob p s).ring i = s.ring i :=
  State.ring_congr (abandonJob_rings s p) i
@[simp] theorem abandonJob_inFlight (q : Port) (p : Port) : (abandonJob q s).inFlight p = s.inFlight p := by
  simp [State.inFlight]

/-- The draining test changes the seeding record and the engine alone (R40). -/
theorem drainTest_frame (r : RingId) :
    drainTest r s =
      { s with
        rings := (drainTest r s).rings
        engine := (drainTest r s).engine } := by
  unfold drainTest
  split
  · split
    · split <;> rfl
    · rfl
  · rfl

@[simp] theorem drainTest_pending (r : RingId) : (drainTest r s).pending = s.pending := by
  rw [drainTest_frame]
@[simp] theorem drainTest_resetLine (r : RingId) : (drainTest r s).resetLine = s.resetLine := by
  rw [drainTest_frame]
@[simp] theorem drainTest_portReset (r : RingId) : (drainTest r s).portReset = s.portReset := by
  rw [drainTest_frame]
@[simp] theorem drainTest_ctlBase (r : RingId) : (drainTest r s).ctlBase = s.ctlBase := by
  rw [drainTest_frame]
@[simp] theorem drainTest_mgmt (r : RingId) : (drainTest r s).mgmt = s.mgmt := by
  rw [drainTest_frame]
@[simp] theorem drainTest_time (r : RingId) : (drainTest r s).time = s.time := by
  rw [drainTest_frame]
@[simp] theorem drainTest_ports (r : RingId) : (drainTest r s).ports = s.ports := by
  rw [drainTest_frame]
@[simp] theorem drainTest_holds (r : RingId) : (drainTest r s).holds = s.holds := by
  rw [drainTest_frame]
@[simp] theorem drainTest_device (r : RingId) : (drainTest r s).device = s.device := by
  rw [drainTest_frame]
@[simp] theorem drainTest_queues (r : RingId) : (drainTest r s).queues = s.queues := by
  rw [drainTest_frame]
@[simp] theorem drainTest_units (r : RingId) : (drainTest r s).units = s.units := by
  rw [drainTest_frame]
@[simp] theorem drainTest_requester (r : RingId) : (drainTest r s).requester = s.requester := by
  rw [drainTest_frame]
@[simp] theorem drainTest_windowMapped (r : RingId) : (drainTest r s).windowMapped = s.windowMapped := by
  rw [drainTest_frame]
@[simp] theorem drainTest_order (r : RingId) : (drainTest r s).order = s.order := by
  rw [drainTest_frame]
@[simp] theorem drainTest_outstanding (r : RingId) : (drainTest r s).outstanding = s.outstanding := by
  rw [drainTest_frame]
@[simp] theorem drainTest_memoryBus (r : RingId) : (drainTest r s).memoryBus = s.memoryBus := by
  rw [drainTest_frame]
@[simp] theorem drainTest_responseBus (r : RingId) : (drainTest r s).responseBus = s.responseBus := by
  rw [drainTest_frame]
@[simp] theorem drainTest_freeCount (r : RingId) : (drainTest r s).freeCount = s.freeCount := by
  rw [drainTest_frame]
@[simp] theorem drainTest_inFlight (r : RingId) (p : Port) : (drainTest r s).inFlight p = s.inFlight p := by
  simp [State.inFlight]

/-- See `drainTest`. -/
theorem drainTestSeeding_frame :
    drainTestSeeding s =
      { s with
        rings := (drainTestSeeding s).rings
        engine := (drainTestSeeding s).engine } := by
  unfold drainTestSeeding
  split
  · exact drainTest_frame s _
  · rfl

@[simp] theorem drainTestSeeding_pending : (drainTestSeeding s).pending = s.pending := by
  rw [drainTestSeeding_frame]
@[simp] theorem drainTestSeeding_resetLine : (drainTestSeeding s).resetLine = s.resetLine := by
  rw [drainTestSeeding_frame]
@[simp] theorem drainTestSeeding_portReset : (drainTestSeeding s).portReset = s.portReset := by
  rw [drainTestSeeding_frame]
@[simp] theorem drainTestSeeding_ctlBase : (drainTestSeeding s).ctlBase = s.ctlBase := by
  rw [drainTestSeeding_frame]
@[simp] theorem drainTestSeeding_mgmt : (drainTestSeeding s).mgmt = s.mgmt := by
  rw [drainTestSeeding_frame]
@[simp] theorem drainTestSeeding_time : (drainTestSeeding s).time = s.time := by
  rw [drainTestSeeding_frame]
@[simp] theorem drainTestSeeding_ports : (drainTestSeeding s).ports = s.ports := by
  rw [drainTestSeeding_frame]
@[simp] theorem drainTestSeeding_holds : (drainTestSeeding s).holds = s.holds := by
  rw [drainTestSeeding_frame]
@[simp] theorem drainTestSeeding_device : (drainTestSeeding s).device = s.device := by
  rw [drainTestSeeding_frame]
@[simp] theorem drainTestSeeding_queues : (drainTestSeeding s).queues = s.queues := by
  rw [drainTestSeeding_frame]
@[simp] theorem drainTestSeeding_units : (drainTestSeeding s).units = s.units := by
  rw [drainTestSeeding_frame]
@[simp] theorem drainTestSeeding_requester : (drainTestSeeding s).requester = s.requester := by
  rw [drainTestSeeding_frame]
@[simp] theorem drainTestSeeding_windowMapped : (drainTestSeeding s).windowMapped = s.windowMapped := by
  rw [drainTestSeeding_frame]
@[simp] theorem drainTestSeeding_order : (drainTestSeeding s).order = s.order := by
  rw [drainTestSeeding_frame]
@[simp] theorem drainTestSeeding_outstanding : (drainTestSeeding s).outstanding = s.outstanding := by
  rw [drainTestSeeding_frame]
@[simp] theorem drainTestSeeding_memoryBus : (drainTestSeeding s).memoryBus = s.memoryBus := by
  rw [drainTestSeeding_frame]
@[simp] theorem drainTestSeeding_responseBus : (drainTestSeeding s).responseBus = s.responseBus := by
  rw [drainTestSeeding_frame]
@[simp] theorem drainTestSeeding_freeCount : (drainTestSeeding s).freeCount = s.freeCount := by
  rw [drainTestSeeding_frame]
@[simp] theorem drainTestSeeding_inFlight (p : Port) : (drainTestSeeding s).inFlight p = s.inFlight p := by
  simp [State.inFlight]

end Sys2Proof.Machine
end

