-- ==== Sys2Proof/Laws/Lists.lean ====
section
/-! SUPPORT. In-flight lists cut at the entry an operation acts on (R162, R164): what changing, finding and
granting that entry do. -/

namespace Sys2Proof.Machine

variable {α : Type}

/-- Changing the first entry that meets a test, when that entry is known. -/
theorem updateFirst_cut {test : α → Bool} {f : α → α} {before after : List α} {e : α}
    (hb : ∀ x ∈ before, test x = false) (he : test e = true) :
    updateFirst test f (before ++ e :: after) = before ++ f e :: after := by
  induction before with
  | nil => simp [updateFirst, he]
  | cons x xs ih =>
    simp only [List.cons_append, updateFirst, hb x (by simp)]
    simp [ih fun y hy => hb y (by simp [hy])]

/-- Finding the first entry that meets a test, when that entry is known. -/
theorem find?_cut {test : α → Bool} {before after : List α} {e : α} (hb : ∀ x ∈ before, test x = false)
    (he : test e = true) : (before ++ e :: after).find? test = some e := by
  rw [List.find?_append, List.find?_eq_none.2 (by simpa using hb)]
  simp [he]

/-- Changing the entry a port's list is cut at. -/
theorem changeEntry_cut {s : State} {p : Port} {test : InFlight → Bool} {f : InFlight → InFlight}
    {before after : List InFlight} {e : InFlight} (hl : s.inFlight p = before ++ e :: after)
    (hb : ∀ x ∈ before, test x = false) (he : test e = true) :
    changeEntry p test f s = s.setInFlight p (before ++ f e :: after) := by
  rw [changeEntry, hl, updateFirst_cut hb he]

/-- The ELIGIBLE entry of a port whose list is cut at it. -/
theorem eligibleEntry_cut {s : State} {p : Port} {before after : List InFlight} {e : InFlight}
    (hl : s.inFlight p = before ++ e :: after) (hb : ∀ x ∈ before, x.isEligible = false) (he : e.stage = .eligible) :
    eligibleEntry s p = some e := by
  rw [eligibleEntry, hl]
  exact find?_cut hb (by simp [InFlight.isEligible, he])

/-- Releasing the write a port's list is cut at (R74, R82). -/
theorem releaseHeld_cut {s : State} {p : Port} {before after : List InFlight} {e : InFlight}
    (hl : s.inFlight p = before ++ e :: after) (hb : ∀ x ∈ before, x.isHeld = false) (he : e.stage = .held) :
    releaseHeld p s = (s.setHold p none).setInFlight p (before ++ { e with stage := .eligible } :: after) :=
  changeEntry_cut (by simpa using hl) hb (by simp [InFlight.isHeld, he])

/-- Refusing the write a port's list is cut at (R77, R81). -/
theorem refuseHeld_cut {s : State} {p : Port} {before after : List InFlight} {e : InFlight}
    (hl : s.inFlight p = before ++ e :: after) (hb : ∀ x ∈ before, x.isHeld = false) (he : e.stage = .held) :
    refuseHeld p s = (s.setHold p none).setInFlight p (before ++ e.refuse :: after) :=
  changeEntry_cut (by simpa using hl) hb (by simp [InFlight.isHeld, he])

/-- The refused entry's stage (R53). -/
theorem InFlight.refuse_eq (e : InFlight) : e.refuse = { e with stage := refusedStage e.request.access } := by
  cases h : e.request.access.transfer <;> simp [InFlight.refuse, refusedData, refusedStage, h]

/-- A port that presents the entry its list is cut at may present, and that entry is its oldest QUEUED one
(R164). -/
theorem present_cut {s : State} {p : Port} {before after : List InFlight} {e : InFlight}
    (h : Presents s p before e after) :
    present p s =
      if runsPast e.request.access then refusePresented p none s else presentClassified p e.request.access s := by
  obtain ⟨hr, hl, he, hb, hw⟩ := h
  have hmay : mayPresent s p = true := by
    rw [mayPresent, hr, hl]
    simp only [Bool.not_false, Bool.true_and, List.all_append, List.all_cons, Bool.and_eq_true, List.all_eq_true]
    refine ⟨fun x hx => ?_, ?_, fun x hx => ?_⟩
    · simpa [InFlight.isWaiting] using hw x (by simp [hx])
    · simp [InFlight.isStalled, InFlight.isEligible, InFlight.isHeld, he]
    · simpa [InFlight.isWaiting] using hw x (by simp [hx])
  have hq : oldestQueued s p = some e := by
    rw [oldestQueued, hl]
    exact find?_cut hb (by simp [InFlight.isQueued, he])
  simp [present, hmay, hq]

/-- The presented entry changed, where the list is cut at it. -/
theorem changePresented_cut {s : State} {p : Port} {f : InFlight → InFlight} {before after : List InFlight}
    {e : InFlight} (hl : s.inFlight p = before ++ e :: after) (hb : ∀ x ∈ before, x.isQueued = false)
    (he : e.stage = .queued) : changePresented p f s = s.setInFlight p (before ++ f e :: after) :=
  changeEntry_cut hl hb (by simp [InFlight.isQueued, he])

end Sys2Proof.Machine
end

