-- ==== Sys2Proof/Laws/Notices.lean ====
section
/-! SUPPORT. Pending sets, notice queues and violation counts: what raising (R93), counting (R22, R23) and
charging (R89) do, said once. -/

namespace Sys2Proof.Machine

/-! ### Pending sets -/

@[simp] theorem pendingSet_setPendingSet_self (src : Source) (p : Port) (k : KindSet) (s : State) :
    pendingSet (setPendingSet src p k s) src p = k := by
  cases src <;> simp [pendingSet, setPendingSet]

theorem pendingSet_setPendingSet_ne {src src' : Source} {p q : Port} (k : KindSet) (s : State)
    (h : (src', q) ≠ (src, p)) : pendingSet (setPendingSet src p k s) src' q = pendingSet s src' q := by
  rcases src with r | _ <;> rcases src' with r' | _ <;> simp [pendingSet, setPendingSet]
  · by_cases hr : r' = r
    · subst hr
      have : q ≠ p := by rintro rfl; exact h rfl
      simp [PerPort.get_set_ne _ _ this]
    · rw [State.ring_setRing_ne _ _ hr]
  · have : q ≠ p := by rintro rfl; exact h rfl
    simp [PerPort.get_set_ne _ _ this]

/-! ### Entries under the raising of kinds: body, count and last violation stay -/

@[simp] theorem setPendingSet_ring_body (src : Source) (p : Port) (k : KindSet) (s : State) (r : RingId) :
    ((setPendingSet src p k s).ring r).body = (s.ring r).body := by
  rcases src with r' | _
  · by_cases h : r = r'
    · subst h; simp [setPendingSet]
    · simp [setPendingSet, State.ring_setRing_ne _ _ h]
  · simp [setPendingSet]

@[simp] theorem raise_ring_body (src : Source) (p : Port) (k : KindSet) (s : State) (r : RingId) :
    ((raise src p k s).ring r).body = (s.ring r).body := by
  simp only [raise]
  split <;> simp

@[simp] theorem raiseRing_ring_body (i : RingId) (k : RingKind) (s : State) (r : RingId) :
    ((raiseRing i k s).ring r).body = (s.ring r).body := by
  unfold raiseRing
  split
  · rfl
  · split <;> simp

@[simp] theorem raiseDevice_ring_body (p : Port) (k : DeviceKind) (s : State) (r : RingId) :
    ((raiseDevice p k s).ring r).body = (s.ring r).body := raise_ring_body ..

@[simp] theorem setPendingSet_ring_count (src : Source) (p : Port) (k : KindSet) (s : State) (r : RingId) :
    ((setPendingSet src p k s).ring r).count = (s.ring r).count := by
  rcases src with r' | _
  · by_cases h : r = r'
    · subst h; simp [setPendingSet]
    · simp [setPendingSet, State.ring_setRing_ne _ _ h]
  · simp [setPendingSet]

@[simp] theorem raise_ring_count (src : Source) (p : Port) (k : KindSet) (s : State) (r : RingId) :
    ((raise src p k s).ring r).count = (s.ring r).count := by
  simp only [raise]
  split <;> simp

@[simp] theorem raiseRing_ring_count (i : RingId) (k : RingKind) (s : State) (r : RingId) :
    ((raiseRing i k s).ring r).count = (s.ring r).count := by
  unfold raiseRing
  split
  · rfl
  · split <;> simp

@[simp] theorem raiseDevice_ring_count (p : Port) (k : DeviceKind) (s : State) (r : RingId) :
    ((raiseDevice p k s).ring r).count = (s.ring r).count := raise_ring_count ..

@[simp] theorem setPendingSet_ring_last (src : Source) (p : Port) (k : KindSet) (s : State) (r : RingId) :
    ((setPendingSet src p k s).ring r).last = (s.ring r).last := by
  rcases src with r' | _
  · by_cases h : r = r'
    · subst h; simp [setPendingSet]
    · simp [setPendingSet, State.ring_setRing_ne _ _ h]
  · simp [setPendingSet]

@[simp] theorem raise_ring_last (src : Source) (p : Port) (k : KindSet) (s : State) (r : RingId) :
    ((raise src p k s).ring r).last = (s.ring r).last := by
  simp only [raise]
  split <;> simp

@[simp] theorem raiseRing_ring_last (i : RingId) (k : RingKind) (s : State) (r : RingId) :
    ((raiseRing i k s).ring r).last = (s.ring r).last := by
  unfold raiseRing
  split
  · rfl
  · split <;> simp

@[simp] theorem raiseDevice_ring_last (p : Port) (k : DeviceKind) (s : State) (r : RingId) :
    ((raiseDevice p k s).ring r).last = (s.ring r).last := raise_ring_last ..

/-! ### Raising (R93) -/

/-- What raising does to pending sets: the set of its source and port takes the kinds in. -/
@[simp] theorem pendingSet_raise_self (src : Source) (p : Port) (k : KindSet) (s : State) :
    pendingSet (raise src p k s) src p = pendingSet s src p ||| k := by
  simp only [raise]
  split
  · exact pendingSet_setPendingSet_self src p _ s
  · exact pendingSet_setPendingSet_self src p _ s

theorem pendingSet_raise_ne {src src' : Source} {p q : Port} (k : KindSet) (s : State) (h : (src', q) ≠ (src, p)) :
    pendingSet (raise src p k s) src' q = pendingSet s src' q := by
  simp only [raise]
  split
  · exact pendingSet_setPendingSet_ne _ s h
  · exact pendingSet_setPendingSet_ne _ s h

/-- What raising does to the queues: the source is appended to the port's queue when its set was empty. -/
theorem queues_raise (src : Source) (p : Port) (k : KindSet) (s : State) :
    (raise src p k s).queues =
      if pendingSet s src p = 0 then s.queues.set p (s.queues.get p ++ [src]) else s.queues := by
  simp only [raise]
  split <;> simp

/-! ### Counting (R22, R23) -/

/-- The saturating count in plain numbers (R22). -/
theorem saturating_count (n : BitVec 16) :
    (if n = 0xFFFF#16 then n else n + 1) = BitVec.ofNat 16 (min (n.toNat + 1) 65535) := by
  apply BitVec.eq_of_toNat_eq
  split
  · rename_i h; rw [h]; decide
  · rename_i h
    have : n.toNat ≠ 65535 := fun hh => h (BitVec.eq_of_toNat_eq (by simpa using hh))
    have := n.isLt
    simp
    omega

/-- Counting a violation replaces the ring's entry by the counted one. -/
theorem countViolation_eq (r : RingId) (k : ViolationKind) (p : Port) (addr : Word) (s : State) :
    countViolation r k p addr s = s.setRing r (countedEntry s r k p addr) := by
  simp only [countViolation, saturating_count, countedEntry]

@[simp] theorem countViolation_ring_body (r : RingId) (k : ViolationKind) (p : Port) (addr : Word) (s : State)
    (i : RingId) : ((countViolation r k p addr s).ring i).body = (s.ring i).body := by
  rw [countViolation_eq]
  by_cases h : i = r
  · subst h; simp [countedEntry]
  · rw [State.ring_setRing_ne _ _ h]

@[simp] theorem chargeViolation_ring_body (r : RingId) (k : ViolationKind) (p : Port) (addr : Word) (s : State)
    (i : RingId) : ((chargeViolation r k p addr s).ring i).body = (s.ring i).body := by
  simp [chargeViolation]

end Sys2Proof.Machine
end

