-- ==== Sys2Proof/Laws/Passage.lean ====
section
/-! SUPPORT. The four outcomes of a presentation (R165) and the grant of a port's request (R172, R173), where the
port's in-flight list is cut at the entry concerned. -/

namespace Sys2Proof.Machine

variable {s u : State} {p : Port} {before after : List InFlight} {e : InFlight}

/-- Refused (R165, R53). -/
theorem refusePresented_cut (h : Presents s p before e after) (hu : u.ports = s.ports) (cls : Option AccessClass) :
    refusePresented p cls u =
      u.setInFlight p (before ++ e.presented (refusedStage e.request.access) cls none :: after) := by
  obtain ⟨-, hl, he, hb, -⟩ := h
  rw [refusePresented, changePresented_cut (by simpa [State.inFlight, hu] using hl) hb he]
  simp [InFlight.refuse_eq, InFlight.presented]

/-- Forwarded (R165). -/
theorem forwardPresented_cut (h : Presents s p before e after) (hu : u.ports = s.ports) (cls : AccessClass)
    (mark : Option ApplyMark) :
    forwardPresented p cls mark u = u.setInFlight p (before ++ e.presented .eligible (some cls) mark :: after) := by
  obtain ⟨-, hl, he, hb, -⟩ := h
  rw [forwardPresented, changePresented_cut (by simpa [State.inFlight, hu] using hl) hb he]
  simp [InFlight.presented]

/-- Stalled (R38). -/
theorem stallPresented_cut (h : Presents s p before e after) (hu : u.ports = s.ports) (cls : AccessClass) :
    stallPresented p cls u = u.setInFlight p (before ++ e.presented .stalled (some cls) none :: after) := by
  obtain ⟨-, hl, he, hb, -⟩ := h
  rw [stallPresented, changePresented_cut (by simpa [State.inFlight, hu] using hl) hb he]
  simp [InFlight.presented]

/-- Held (R72). -/
theorem holdPresented_cut (h : Presents s p before e after) (hu : u.ports = s.ports) (cls : AccessClass)
    (hold : HoldSlot) :
    holdPresented p cls hold u =
      (u.setHold p (some hold)).setInFlight p (before ++ e.presented .held (some cls) none :: after) := by
  obtain ⟨-, hl, he, hb, -⟩ := h
  rw [holdPresented, changePresented_cut (by simpa [State.inFlight, hu] using hl) hb he]
  simp [InFlight.presented]

/-- A grant to a port is of its ELIGIBLE entry (R172). -/
theorem arbitrate_of_grantsPort (h : GrantsPort s p before e after) : arbitrate s = grantPort p e s := by
  obtain ⟨h1, h2, h3, h4⟩ := h
  simp [arbitrate, h1, grantTo, eligibleEntry_cut h2 h4 h3]

/-- What the grant of a port's request is made of (R172, R173, R40). -/
theorem grantPort_cut (h : GrantsPort s p before e after) :
    grantPort p e s =
      handed (drainTestSeeding (grantEffect p e (grantedEntry s p before e after))) (.port p)
        (.port p e.serial e.ring? (isApplied s e)) e.request.access := by
  obtain ⟨-, h2, h3, h4⟩ := h
  simp only [grantPort]
  rw [changeEntry_cut h2 h4 (by simp [InFlight.isEligible, h3])]
  rfl

end Sys2Proof.Machine
end

