-- ==== Sys2Proof/Laws/Rings.lean ====
section
/-! SUPPORT. Ring entries by phase, held writes of a ring, and what leaving TRACKING or clearing an entry does to
outstanding writes and to records in flight. -/

namespace Sys2Proof.Machine

/-! ### Phases -/

theorem RingEntry.isTracking_iff {e : RingEntry} {b : RingBody} (hb : e.body = some b) :
    e.isTracking = true ↔ ∃ head tail, b.phase = .tracking head tail := by
  rcases b with ⟨_, _, _, ph⟩
  cases ph <;> simp [RingEntry.isTracking, RingEntry.phase?, hb]

theorem RingEntry.isSeeding_iff {e : RingEntry} {b : RingBody} (hb : e.body = some b) :
    e.isSeeding = true ↔ ∃ rec, b.phase = .seeding rec := by
  rcases b with ⟨_, _, _, ph⟩
  cases ph <;> simp [RingEntry.isSeeding, RingEntry.phase?, hb]

theorem RingEntry.isTracking_of_free {e : RingEntry} (hb : e.body = none) : e.isTracking = false := by
  simp [RingEntry.isTracking, RingEntry.phase?, hb]

theorem RingEntry.isSeeding_of_free {e : RingEntry} (hb : e.body = none) : e.isSeeding = false := by
  simp [RingEntry.isSeeding, RingEntry.phase?, hb]

/-- The states the ring commands are allowed in, by state code (08). -/
theorem allowed_of_stateNumber (e : RingEntry) :
    (stateNumber e ∈ [0, 1] → allowedDefine e = true) ∧ (stateNumber e = 1 → allowedDefined e = true) ∧
      (stateNumber e ∈ [3, 4] → allowedDisarm e = true) ∧ (stateNumber e = 4 → allowedFaulted e = true) ∧
      (stateNumber e ∈ [1, 3, 4] → allowedChange e = true) := by
  rcases hb : e.body with _ | ⟨_, _, _, ph⟩
  · simp [stateNumber, allowedDefine, RingEntry.phase?, hb]
  · cases ph <;>
      simp [stateNumber, allowedDefine, allowedDefined, allowedDisarm, allowedFaulted, allowedChange,
        RingEntry.phase?, hb]

/-! ### Held writes -/

/-- The write held on a ring depends on the hold slots alone. -/
theorem heldOn_congr {s t : State} (h : t.holds = s.holds) (r : RingId) : heldOn t r = heldOn s r := by
  simp [heldOn, h]

theorem heldOn_none {s : State} {r : RingId} (h : heldOn s r = none) : releaseHeldOn r s = s := by
  simp [releaseHeldOn, h]

/-! ### Raising for a ring -/

/-- Raising a ring kind touches no other ring's entry. -/
theorem raiseRing_ring_ne {r i : RingId} (k : RingKind) (s : State) (h : i ≠ r) :
    (raiseRing r k s).ring i = s.ring i := by
  unfold raiseRing
  split
  · rfl
  · split
    · rfl
    · simp only [raise]
      split <;> simp [setPendingSet, State.ring_setRing_ne _ _ h]

/-- Raising a ring kind touches no DEVICE set (R93). -/
@[simp] theorem raiseRing_device (r : RingId) (k : RingKind) (s : State) : (raiseRing r k s).device = s.device := by
  unfold raiseRing
  split
  · rfl
  · split
    · rfl
    · simp only [raise]
      split <;> simp [setPendingSet]

/-- Entry into FAULTED touches no DEVICE set (R57). -/
@[simp] theorem faultEntry_device (r : RingId) (cause : FaultCause) (s : State) :
    (faultEntry r cause s).device = s.device := by
  unfold faultEntry
  split
  · split <;> simp
  · rfl

/-! ### Outstanding writes and records in flight -/

/-- Removing one ring's applied marks, entry by entry (R36). -/
theorem dropApplied_eq (r : RingId) :
    OutEntry.dropApplied r = fun o =>
      match o.origin with
      | .port p n (some r') true => if r' = r then { o with origin := .port p n (some r) false } else o
      | _ => o := by
  funext o
  unfold OutEntry.dropApplied
  rcases o with ⟨⟨p, n, ring, ap⟩ | _ | _, _⟩
  · rcases ring with _ | r' <;> cases ap <;> simp
    split <;> simp_all
  · rfl
  · rfl

/-- Marking the records of one ring cleared (R96, R99). -/
theorem clearedFor_eq (r : RingId) :
    RecordInFlight.clearedFor r = fun rec =>
      if (rec.source == Source.ring r) = true then { rec with cleared := true } else rec := by
  funext rec
  simp [RecordInFlight.clearedFor]

/-- Marking the records of every ring cleared (R96, R159). -/
theorem clearedForAll_eq :
    RecordInFlight.clearedForAll = fun rec =>
      if (rec.source != Source.device) = true then { rec with cleared := true } else rec := by
  funext rec
  cases h : rec.source <;> simp [RecordInFlight.clearedForAll, h]

/-- Removing the marks of waiting notice tail writes, entry by entry (R106, R108, R114). -/
theorem dropNoticeMark_eq :
    InFlight.dropNoticeMark = fun e =>
      if e.stage = .eligible ∧ e.mark = some .noticeTail then { e with mark := none } else e := by
  funext e
  simp [InFlight.dropNoticeMark, InFlight.isEligible]

end Sys2Proof.Machine
end

