-- ==== Sys2Proof/Tests/Slice0.lean ====
section
/-! SUPPORT. Tests: ill-formed commands refused by each check, a witness for the hypotheses of each statement, and
single steps whose results are the manual's own (each comment names its source). -/

namespace Sys2Proof.Tests

open Sys2Proof.Machine

/-! ### WellFormed -/

/-- One full word of a write. -/
def full (data : Word) : WriteWord := { data := data, enables := 0xF#4 }

/-- A request with tag 7. -/
def ask (addr : Word) (transfer : Transfer) : Request := { access := { addr := addr, transfer := transfer }, tag := 7 }

theorem test_wf_unaligned : (Instr.acceptance .a (ask 0x10002 (.read 1))).wf = false := by decide
theorem test_wf_empty_read : (Instr.acceptance .a (ask 0x10000 (.read 0))).wf = false := by decide
theorem test_wf_long_read : (Instr.acceptance .a (ask 0x10000 (.read 9))).wf = false := by decide
theorem test_wf_empty_write : (Instr.acceptance .b (ask 0x10000 (.write []))).wf = false := by decide
theorem test_wf_long_write : (Instr.acceptance .b (ask 0x10000 (.write (List.replicate 9 (full 0))))).wf = false := by
  decide
theorem test_wf_eight_words : (Instr.acceptance .b (ask 0x10000 (.write (List.replicate 8 (full 0))))).wf = true := by
  decide
theorem test_wf_long_data : (Instr.memoryResponse .okay (List.replicate 9 0)).wf = false := by decide

/-! ### States -/

/-- Port A manages, the window is at 00008000H, and the initialisation burst has been granted. -/
def up : State :=
  { State.reset with
    resetLine := false
    ctlBase := 0x10
    windowMapped := true
    engine := { Engine.powerOn with state := .idle } }

/-- A ring of 8 slots of 4 words, produced by port A and telling port B. -/
def desc : Descriptor :=
  { dataBase := 0x10000, slotSize := 4, slotCount := 8, headAddr := 0x20000, tailAddr := 0x20004, producer := .a,
    guardMode := .refuse, holdLimit := 100, recovery := .quiesce, writeback := false, notify := .b, mask := 0x3F }

/-- The ring with a phase. -/
def body (ph : RingPhase) : RingBody := { desc := desc, highMark := some 6, lowMark := some 2, phase := ph }

/-- Ring 3 in a phase. -/
def ring3 (ph : RingPhase) : State := up.setBody 3 (body ph)

/-- Ring 3 in a phase, in a guard mode. -/
def guarded (g : GuardMode) (ph : RingPhase) : State :=
  up.setBody 3 { body ph with desc := { desc with guardMode := g } }

/-- An entry of an in-flight list. -/
def entry (q : Request) (stage : Stage) (cls : Option AccessClass) (mark : Option ApplyMark) : InFlight :=
  { serial := 0, request := q, stage := stage, cls := cls, mark := mark }

/-- An entry not yet presented. -/
def queued (q : Request) : InFlight := entry q .queued none none

/-- The port has one request, not yet presented. -/
def offering (s : State) (p : Port) (q : Request) : State := s.setInFlight p [queued q]

/-- Port B's notice ring of 4 slots. -/
def unitB (ph : UnitPhase) : NoticeUnit :=
  { base := 0x30000, slotCount := 4, headAddr := 0x30080, tailAddr := 0x30084, head := 5, tail := 3, seq := 5,
    phase := ph }

/-- Port B's unit in a phase. -/
def unitUp (ph : UnitPhase) : State := up.setUnit .b (some (unitB ph))

/-- Parameter words, the last two zero. -/
def params (w2 w3 w4 w5 : Word) : Params := { w2 := w2, w3 := w3, w4 := w4, w5 := w5, w6 := 0, w7 := 0 }

/-- A fetched command, at command index 31. -/
def cmd (code operand : Nat) (w : Params) : CurrentCommand :=
  { index := 31, words := { w0 := BitVec.ofNat 32 (code + 256 * operand), w1 := 0, params := w } }

/-- The engine executes a command. -/
def executes (s : State) (c : CurrentCommand) : State :=
  s.setEngine { s.engine with state := .executing, current := some c }

/-- A held write of port A on ring 3: slot 4 is occupied. -/
def heldReq : Request := ask 0x10040 (.write [full 1])

/-- Port A holds `heldReq` on ring 3 in guard mode HOLD, with head 10 and tail 4. -/
def holding : State :=
  ((guarded .hold (.tracking 10 4)).setHold .a (some { ring := 3, slots := [4], first := 0x10040, start := 0 })).setInFlight
    .a [entry heldReq .held (some (.ringData 3)) none]

/-- The memory port awaits one answer. -/
def awaiting (s : State) (o : Origin) : State := s.setOutstanding [{ origin := o, discarded := false }]

/-- A port's request is ELIGIBLE. -/
def eligible (s : State) (p : Port) (q : Request) (cls : AccessClass) (mark : Option ApplyMark) : State :=
  s.setInFlight p [entry q .eligible (some cls) mark]

/-- A seeding record of ARM_RING. -/
def seeding (step : SeedStep) (h t : Option Seed) : RingPhase :=
  .seeding { purpose := .arm, step := step, peerReset := false, headSeed := h, tailSeed := t }

/-- Ring 3 SEEDING, the engine waiting for it. -/
def arming (step : SeedStep) (h t : Option Seed) : State :=
  (ring3 (seeding step h t)).setEngine
    { up.engine with state := .waiting (.seeding 3), current := some (cmd 3 3 (params 0 0 0 0)) }

/-- A fault record. -/
def fault : FaultRecord := { cause := .index .headJump .a 0x20000 0xFF, time := 9 }

/-- A record of ring 3 in flight. -/
def record (ph : RecordPhase) : RecordInFlight :=
  { source := .ring 3, kinds := 1, words := [], slot := 1, phase := ph, cleared := false }

/-! ### Witnesses: the hypotheses of each statement are met -/

theorem witness_StepTakesFrontCommand :
    { up with pending := [Instr.grant, .timeBaseStep] }.pending = .grant :: [.timeBaseStep] ∧ up.pending = [] := by
  decide

theorem witness_ResetLinesAct : State.reset.resetLine = true := by decide

theorem witness_PortResetDiscards :
    (up.portReset.get .a = false ∧ up.resetLine = false ∧ ((ring3 (.tracking 10 4)).ring 3).isSeeding = false ∧
      up.holds.get (other .a) = none) ∧
      holding.portReset.get .b = false ∧ holding.resetLine = false ∧ (holding.ring 3).isTracking = true ∧
      holding.holds.get (other .b) = some { ring := 3, slots := [4], first := 0x10040, start := 0 } ∧
      holding.inFlight (other .b) = [] ++ entry heldReq .held (some (.ringData 3)) none :: [] := by
  decide

theorem witness_PortResetFlagsSeeding :
    let s := arming .draining none none
    s.portReset.get .b = false ∧ s.resetLine = false ∧ Port.b ≠ s.mgmt ∧ seedingRing s = some 3 ∧
      (s.ring 3).body = some (body (seeding .draining none none)) ∧ s.engine.state = .waiting (.seeding 3) := by
  decide

/-- The engine waits, with a command of this code for port B. -/
def waits (s : State) (w : EngineWait) (code : Nat) : State :=
  s.setEngine { s.engine with state := .waiting w, current := some (cmd code 1 (params 0 0 0 0)) }

theorem witness_PortResetNotices :
    (up.portReset.get .a = false ∧ up.resetLine = false ∧ NoticesAgree up) ∧
      let s := waits (unitUp .settingUp) (.setup .b) 11
      let u := waits (unitUp (.ready (some (record .burst)) true)) (.noticeOff .b) 12
      (s.portReset.get .b = false ∧ s.resetLine = false ∧ Port.b ≠ s.mgmt ∧ (∀ r, (s.ring r).isSeeding = false) ∧
        s.engine.current = some (cmd 11 1 (params 0 0 0 0)) ∧ s.engine.state = .waiting (.setup .b)) ∧
        Port.b ≠ u.mgmt ∧ (∀ r, (u.ring r).isSeeding = false) ∧ u.engine.current.isSome = true ∧
        u.engine.state = .waiting (.noticeOff .b) := by
  decide

theorem witness_ManagingResetReinitialises :
    let s := arming .reading none none
    let u := (unitUp (.ready (some (record .burst)) true)).setEngine { up.engine with state := .waiting (.noticeOff .b) }
    (s.portReset.get s.mgmt = false ∧ s.resetLine = false ∧ s.engine.state ≠ .init ∧ seedingRing s = some 3) ∧
      u.portReset.get u.mgmt = false ∧ u.engine.state = .waiting (.noticeOff .b) ∧ Port.b ≠ u.mgmt ∧
      u.units.get .b = some (unitB (.ready (some (record .burst)) true)) ∧
      ((unitUp .settingUp).setEngine { up.engine with state := .waiting (.setup .b) }).engine.state =
        .waiting (.setup .b) := by
  decide

theorem witness_AcceptanceTakesRequest :
    (ask 0xFFFFFFFC (.read 8)).wf = true ∧ (up.inFlight .a).length < 8 ∧ up.windowMapped = true ∧
      up.engine.state ≠ .init := by
  decide

theorem witness_FrontResponseLeaves :
    let d := entry (ask 0x40000 (.read 1)) (.done .okay [5]) (some .plain) none
    let g := entry (ask 0x40000 (.read 1)) .granted (some .plain) none
    (up.setInFlight .a [d]).inFlight .a = d :: [] ∧ d.stage = .done .okay [5] ∧
      (up.setInFlight .a [g]).inFlight .a = g :: [] ∧ g.stage = .granted := by
  decide

/-- What `Presents` and the classifier say of the only request of a port. -/
abbrev presentsAs (s : State) (p : Port) (q : Request) (cls : AccessClass) : Prop :=
  Presents (offering s p q) p [] (queued q) [] ∧ runsPast q.access = false ∧ classify (offering s p q) q.access = cls

theorem witness_UncheckedPresentation :
    (Presents (offering up .a (ask 0xFFFFFFFC (.read 2))) .a [] (queued (ask 0xFFFFFFFC (.read 2))) [] ∧
      runsPast (ask 0xFFFFFFFC (.read 2)).access = true) ∧
      presentsAs up .a (ask 0xFFFFFFFC (.read 1)) .plain ∧
      presentsAs (arming .reading none none) .b (ask 0x20004 (.write [full 4])) (.tailWord 3) ∧
      presentsAs (ring3 (.faulted fault none none)) .a (ask 0x1007C (.read 1)) (.ringData 3) ∧
      presentsAs (ring3 (.tracking 10 4)) .a (ask 0x20000 (.read 1)) (.headWord 3) := by
  decide

theorem witness_IndexWriteChecked :
    presentsAs (ring3 (.tracking 10 4)) .a (ask 0x20000 (.write [full 12])) (.headWord 3) ∧
      indexVerdict desc 10 4 .head .a (full 12) = none ∧ indexVerdict desc 10 4 .head .a (full 13) = some .headJump ∧
      presentsAs (guarded .observe (.tracking 10 4)) .b (ask 0x20004 (.write [full 11])) (.tailWord 3) ∧
      indexVerdict desc 10 4 .tail .b (full 10) = none ∧ indexVerdict desc 10 4 .tail .b (full 11) = some .tailJump ∧
      heldOn (guarded .observe (.tracking 10 4)) 3 = none := by
  decide

theorem witness_DataAccessChecked :
    presentsAs (ring3 (.tracking 10 4)) .a (ask 0x10020 (.write [full 1])) (.ringData 3) ∧ desc.FieldsOk ∧
      occupancyVerdict desc 10 4 .a (ask 0x10020 (.write [full 1])).access = none ∧
      presentsAs (guarded .hold (.tracking 10 4)) .a heldReq (.ringData 3) ∧
      occupancyVerdict desc 10 4 .a heldReq.access = some .overwrite ∧
      occupancyVerdict desc 10 4 .b (ask 0x10020 (.read 1)).access = some .staleRead ∧
      (guarded .hold (.tracking 10 4)).holds.get (other .a) = none := by
  decide

theorem witness_WindowAccessChecked :
    presentsAs up .b (ask 0x8000 (.read 4)) .controlHeader ∧ presentsAs up .b (ask 0x840C (.write [full 0])) .commandSlot ∧
      presentsAs up .a (ask 0x8010 (.write [full 0])) .commandSlot ∧
      presentsAs up .a (ask 0x8000 (.write [full 32])) .controlHeader ∧ windowBase up = 0x8000 ∧
      headVerdict up (full 32) = true ∧ headVerdict up (full 33) = false ∧
      presentsAs up .a (ask 0x8000 (.write [full 0, full 0])) .controlHeader := by
  decide

theorem witness_NoticeAccessChecked :
    presentsAs (unitUp (.ready none false)) .a (ask 0x30000 (.read 8)) (.noticeData .b) ∧
      presentsAs (unitUp (.ready none false)) .a (ask 0x30084 (.write [full 4])) (.noticeTail .b) ∧
      presentsAs (unitUp (.ready none false)) .b (ask 0x30084 (.write [full 5])) (.noticeTail .b) ∧
      tailVerdict (unitB (.ready none false)) (full 5) = true ∧
      tailVerdict (unitB (.ready none false)) (full 6) = false := by
  decide

theorem witness_CrossingDecided :
    presentsAs (arming .reading none none) .a (ask 0x20000 (.read 2)) .crossing ∧
      presentsAs up .a (ask 0x7FFC (.write [full 0, full 0])) .crossing ∧
      presentsAs (ring3 (.tracking 10 4)) .a (ask 0x1007C (.read 2)) .crossing ∧
      presentsAs (ring3 (.faulted fault none none)) .a (ask 0x1007C (.read 2)) .crossing ∧
      coveredWords (ask 0x1007C (.read 2)).access = [] ++ 0x1007C :: [0x10080] ∧
      regionAt (offering (ring3 (.tracking 10 4)) .a (ask 0x1007C (.read 2))) 0x1007C = some (.ringData 3) := by
  decide

theorem witness_OneRegionPerAddress :
    RegionsSound (ring3 (.tracking 10 4)) ∧
      (RegionName.ringData 3, desc.dataArea) ∈ regionMap (ring3 (.tracking 10 4)) ∧
      desc.dataArea.contains 0x1007F = true ∧ desc.dataArea.contains 0x10080 = false := by
  decide

theorem witness_OccupiedSlotsAreNamed :
    (1 ≤ 3 ∧ 3 ≤ 15 ∧ 7 < 2 ^ 3 ∧ distance 10 2 ≤ 2 ^ 3) ∧ slotOccupied 8 10 2 7 = true := by decide

theorem witness_ViolationCharged : ((ring3 (.tracking 10 4)).ring 3).body = some (body (.tracking 10 4)) := by decide

theorem witness_FaultEntryEffects :
    ((ring3 .defined).ring 3).body = some (body .defined) ∧ ((ring3 .defined).ring 3).isTracking = false ∧
      (holding.ring 3).isTracking = true ∧
      heldOn holding 3 = some (.a, { ring := 3, slots := [4], first := 0x10040, start := 0 }) ∧
      holding.inFlight .a = [] ++ entry heldReq .held (some (.ringData 3)) none :: [] := by
  decide

/-- The next grant is that of a port's only request. -/
abbrev grants (s : State) (p : Port) (q : Request) (cls : AccessClass) (mark : Option ApplyMark) : Prop :=
  GrantsPort (eligible s p q cls mark) p [] (entry q .eligible (some cls) mark) []

theorem witness_GrantRotates :
    let s := eligible up .b (ask 0x40000 (.read 1)) .plain none
    s.resetLine = false ∧ s.outstanding.length < 8 ∧
      s.order = [.port .a] ++ Requester.port .b :: [.engine, .notice] ∧ requestAt s (.port .a) = none ∧
      requestAt s (.port .b) = some (ask 0x40000 (.read 1)).access ∧ (∀ q ∈ up.order, requestAt up q = none) := by
  decide

theorem witness_HeadWriteApplied :
    let s := eligible (ring3 (.tracking 10 4)) .a (ask 0x20000 (.write [full 12])) (.headWord 3)
      (some (.ringIndex 3 .head))
    TrackingSound s ∧
      grants (ring3 (.tracking 10 4)) .a (ask 0x20000 (.write [full 12])) (.headWord 3) (some (.ringIndex 3 .head)) ∧
      (s.ring 3).body = some (body (.tracking 10 4)) := by
  decide

/-- The tail write that frees the held slot is at the arbiter. -/
def freeing : State := eligible holding .b (ask 0x20004 (.write [full 5])) (.tailWord 3) (some (.ringIndex 3 .tail))

/-- A tail write of the whole fill is at the arbiter. -/
def emptying : State :=
  eligible (ring3 (.tracking 10 4)) .b (ask 0x20004 (.write [full 10])) (.tailWord 3) (some (.ringIndex 3 .tail))

theorem witness_TailWriteApplied :
    (TrackingSound freeing ∧
      grants holding .b (ask 0x20004 (.write [full 5])) (.tailWord 3) (some (.ringIndex 3 .tail)) ∧
      (freeing.ring 3).body.any (fun b => b.phase == .tracking 10 4) = true ∧ desc.FieldsOk ∧
      heldOn freeing 3 = some (.a, { ring := 3, slots := [4], first := 0x10040, start := 0 }) ∧
      freeing.inFlight .a = [] ++ entry heldReq .held (some (.ringData 3)) none :: []) ∧
      TrackingSound emptying ∧ heldOn emptying 3 = none ∧
      grants (ring3 (.tracking 10 4)) .b (ask 0x20004 (.write [full 10])) (.tailWord 3) (some (.ringIndex 3 .tail)) :=
  ⟨by decide, by decide⟩

theorem witness_QuiesceObserved :
    grants (ring3 (.faulted fault none (some 4))) .a (ask 0x20000 (.write [full 4])) (.headWord 3) none ∧
      grants (ring3 (.faulted fault none none)) .a (ask 0x20004 (.write [full 4])) (.tailWord 3) none ∧
      desc.recovery = .quiesce ∧ desc.producer = .a := by
  decide

theorem witness_CommandHeadApplied :
    grants up .a (ask 0x8000 (.write [full 32])) .controlHeader (some .commandHead) ∧
      grants (up.setEngine { up.engine with state := .halted { cause := .fetchError, slot := 0, address := 0x8010 } }) .a
        (ask 0x8000 (.write [full 0])) .controlHeader (some .commandHead) := by
  decide

theorem witness_OtherPortGrants :
    grants up .a (ask 0x40000 (.write [full 1])) .plain none ∧
      grants (ring3 .defined) .a (ask 0x20000 (.write [full 1])) (.headWord 3) (some (.ringIndex 3 .head)) ∧
      stateNumber ((ring3 .defined).ring 3) ∈ [0, 1, 2] ∧
      grants (ring3 (.tracking 10 4)) .b (ask 0x10040 (.read 1)) (.ringData 3) none ∧
      stateNumber ((ring3 (.tracking 10 4)).ring 3) = 3 ∧
      grants (unitUp (.ready none false)) .b (ask 0x30084 (.write [full 5])) (.noticeTail .b) (some .noticeTail) := by
  decide

/-- One engine access at the arbiter. -/
def presenting (s : State) (q : EngineRequest) : State := s.setEngine { s.engine with requests := [q] }

/-- A report of command index 31 being written. -/
def reported : State :=
  up.setEngine
    { up.engine with
      state := .reporting
      head := 32
      tail := 31
      report := some { index := 31, status := .ok, words := params 0 0 0 0 }
      phase := some .tail }

theorem witness_PartGrants :
    let i := presenting { State.reset with resetLine := false } (initBurst up)
    let w := presenting reported (tailWrite up { index := 31, status := .ok, words := params 0 0 0 0 })
    let d := presenting (arming .reading none none) (seedRead 3 desc .head)
    let n := up.setJob (some { unit := .b, write := .setupHead, access := fullWrite 0x30080 [0], waiting := true })
    (nextGrant i = some .engine ∧ i.engine.state = .init) ∧ (nextGrant w = some .engine ∧ w.engine.state = .reporting) ∧
      nextGrant d = some .engine ∧ nextGrant (presenting up (statusWrite up)) = some .engine ∧
      nextGrant n = some .notice := by
  decide

theorem witness_DrainEnds :
    let s := eligible (arming .draining none none) .a (ask 0x2FFFC (.read 1)) .plain none
    let t := eligible (arming .draining none none) .b (ask 0x1007C (.read 1)) .plain none
    seedingRing up = none ∧ seedingRing s = some 3 ∧ drainBlocked s 3 desc = false ∧ drainBlocked t 3 desc = true := by
  decide

theorem witness_MemoryAnswersPort :
    let e := entry (ask 0x20000 (.write [full 12])) .granted (some (.headWord 3)) (some (.ringIndex 3 .head))
    let s := awaiting ((ring3 (.tracking 12 4)).setInFlight .a [e]) (.port .a 0 (some 3) true)
    s.outstanding = { origin := .port .a 0 (some 3) true, discarded := false } :: [] ∧
      s.inFlight .a = [] ++ e :: [] ∧ e.serial = 0 := by
  decide

theorem witness_IgnoredResponses :
    up.outstanding = [] ∧
      (awaiting up (.engine .initBurst)).outstanding = { origin := .engine .initBurst, discarded := false } :: [] := by
  decide

theorem witness_SeedsSettle :
    let s := awaiting (arming .reading none none) (.engine (.seedRead 3 .head))
    let t := awaiting (arming .reading (some (.word 0xFFFF)) none) (.engine (.seedRead 3 .tail))
    (s.ring 3).body = some (body (seeding .reading none none)) ∧
      (t.ring 3).body = some (body (seeding .reading (some (.word 0xFFFF)) none)) ∧
      t.engine.state = .waiting (.seeding 3) ∧ t.engine.current = some (cmd 3 3 (params 0 0 0 0)) := by
  decide

theorem witness_EngineAnswered :
    let f := awaiting (up.setEngine { up.engine with state := .fetching, head := 1 }) (.engine .fetch)
    let r := awaiting (reported.setEngine { reported.engine with phase := some .burst }) (.engine .reportBurst)
    let t := awaiting (reported.setEngine { reported.engine with state := .idle, tail := 32 }) (.engine .tailWrite)
    (f.outstanding = { origin := .engine .fetch, discarded := false } :: [] ∧ f.engine.state = .fetching) ∧
      (r.engine.report.isSome ∧ r.engine.state = .reporting) ∧ t.engine.report.isSome ∧ t.engine.state = .idle := by
  decide

theorem witness_CommandsChecked :
    Executes (executes up (cmd 14 0 (params 0 0 0 0))) 14 0 (cmd 14 0 (params 0 0 0 0)) ∧
      Executes (executes up (cmd 9 24 (params 0 0 0 0))) 9 24 (cmd 9 24 (params 0 0 0 0)) ∧
      (9, Instr.queryRing) ∈ ringCommands ∧
      Executes (executes up (cmd 12 2 (params 0 0 0 0))) 12 2 (cmd 12 2 (params 0 0 0 0)) ∧
      Executes (executes up (cmd 3 23 (params 0 0 0 0))) 3 23 (cmd 3 23 (params 0 0 0 0)) ∧
      (3, Instr.armRing) ∈ ringCommands ∧ (3, [1]) ∈ allowedStates ∧ stateNumber (up.ring 23) = 0 ∧
      Executes (executes (unitUp (.ready none false)) (cmd 11 1 (params 0 0 0 0))) 11 1 (cmd 11 1 (params 0 0 0 0)) ∧
      up.units.get .b = none := by
  decide

theorem witness_DefineRingResult :
    let good := descriptorParams desc
    let bad := params 2 0 0 0
    let near := descriptorParams { desc with headAddr := 0x1007C }
    Executes (executes up (cmd 1 3 good)) 1 3 (cmd 1 3 good) ∧ stateNumber (up.ring 3) ∈ [0, 1] ∧ desc.FieldsOk ∧
      LiesApart desc.regions (reservedByOthers (executes up (cmd 1 3 good)) 3) ∧
      Executes (executes up (cmd 1 3 bad)) 1 3 (cmd 1 3 bad) ∧ parseDescriptor bad = none ∧
      Executes (executes up (cmd 1 3 near)) 1 3 (cmd 1 3 near) ∧ { desc with headAddr := 0x1007C }.FieldsOk ∧
      ¬LiesApart { desc with headAddr := 0x1007C }.regions (reservedByOthers (executes up (cmd 1 3 near)) 3) := by
  decide

theorem witness_ClearingCommands :
    Executes (executes (ring3 .defined) (cmd 2 3 (params 0 0 0 0))) 2 3 (cmd 2 3 (params 0 0 0 0)) ∧
      stateNumber ((ring3 .defined).ring 3) = 1 ∧
      Executes (executes (ring3 (.tracking 10 4)) (cmd 10 3 (params 0 0 0 0))) 10 3 (cmd 10 3 (params 0 0 0 0)) ∧
      Executes (executes up (cmd 13 255 (params 0 0 0 0))) 13 255 (cmd 13 255 (params 0 0 0 0)) ∧
      up.holds = ⟨none, none⟩ ∧
      Executes (executes holding (cmd 13 0 (params 0 0 0 0))) 13 0 (cmd 13 0 (params 0 0 0 0)) ∧
      (holding.holds.get .a).isSome ∧ holding.holds.get (other .a) = none := by
  decide

theorem witness_SeedingBegins :
    Executes (executes (ring3 .defined) (cmd 3 3 (params 0 0 0 0))) 3 3 (cmd 3 3 (params 0 0 0 0)) ∧
      ((ring3 .defined).ring 3).body = some (body .defined) ∧
      Executes (executes (ring3 (.faulted fault none none)) (cmd 5 3 (params 0 0 0 0))) 5 3
        (cmd 5 3 (params 0 0 0 0)) := by
  decide

theorem witness_DisarmRingResult :
    Executes (executes holding (cmd 4 3 (params 0 0 0 0))) 4 3 (cmd 4 3 (params 0 0 0 0)) ∧
      stateNumber (holding.ring 3) ∈ [3, 4] ∧ (heldOn holding 3).isSome ∧
      Executes (executes (ring3 (.faulted fault none none)) (cmd 4 3 (params 0 0 0 0))) 4 3
        (cmd 4 3 (params 0 0 0 0)) ∧
      heldOn (ring3 (.faulted fault none none)) 3 = none := by
  decide

theorem witness_SetMarksResult :
    Executes (executes (ring3 .defined) (cmd 6 3 (params 1 8 1 7))) 6 3 (cmd 6 3 (params 1 8 1 7)) ∧
      stateNumber ((ring3 .defined).ring 3) ∈ [1, 3, 4] ∧ MarksOk 8 (params 1 8 1 7) ∧ ¬MarksOk 8 (params 1 9 0 0) ∧
      ¬MarksOk 8 (params 1 7 1 7) ∧ MarksOk 8 (params 0 9 0 9) := by
  decide

theorem witness_SetGuardResult :
    Executes (executes holding (cmd 7 3 (params 0 65535 1 0))) 7 3 (cmd 7 3 (params 0 65535 1 0)) ∧
      (heldOn holding 3).isSome ∧ (params 0 65535 1 0).w2.toNat = guardNumber .observe ∧
      (params 0 65535 1 0).w4.toNat = recoveryNumber .quiesce ∧
      Executes (executes holding (cmd 7 3 (params 2 0 1 0))) 7 3 (cmd 7 3 (params 2 0 1 0)) := by
  decide

/-- Ring 3 has a kind pending for port B. -/
def telling : State := raise (.ring 3) .b 0b000101 (ring3 (.tracking 10 4))

theorem witness_SetNotifyResult :
    Executes (executes telling (cmd 8 3 (params 0 63 0 0))) 8 3 (cmd 8 3 (params 0 63 0 0)) ∧ NoticesAgree telling ∧
      (telling.ring 3).body = some (body (.tracking 10 4)) ∧ (params 0 63 0 0).w2.toNat = portNumber .a ∧
      Executes (executes telling (cmd 8 3 (params 0 64 0 0))) 8 3 (cmd 8 3 (params 0 64 0 0)) := by
  decide

theorem witness_QueryRingResult :
    Executes (executes up (cmd 9 0 (params 2 0 0 0))) 9 0 (cmd 9 0 (params 2 0 0 0)) := by decide

theorem witness_ViewLayouts :
    ((ring3 (.tracking 10 4)).ring 3).body = some (body (.tracking 10 4)) ∧
      ((ring3 (.faulted fault none none)).ring 3).body = some (body (.faulted fault none none)) ∧
      (up.ring 3).body = none ∧ (heldOn holding 3).isSome ∧
      ((countViolation 3 .headJump .a 0x20000 holding).ring 3).last =
        some { kind := .headJump, port := .a, address := 0x20000, time := 0 } := by
  decide

theorem witness_SetupNoticeResult :
    let w := params 0x50000 10 0x60000 0x60004
    Executes (executes up (cmd 11 1 w)) 11 1 (cmd 11 1 w) ∧ up.units.get .b = none ∧ GeometryOk w ∧
      LiesApart (unitOf w).regions (reservedByOtherUnits (executes up (cmd 11 1 w)) .b) ∧
      ¬GeometryOk (params 0x50000 11 0x60000 0x60004) ∧
      ¬LiesApart (unitOf (params 0x8400 2 0x60000 0x60004)).regions (reservedByOtherUnits up .b) ∧
      GeometryOk (params 0x8400 2 0x60000 0x60004) := by
  decide

theorem witness_NoticeOffResult :
    let f : FailingWrite := { address := 0x30080, which := .head }
    Executes (executes (unitUp (.ready none false)) (cmd 12 1 (params 0 0 0 0))) 12 1 (cmd 12 1 (params 0 0 0 0)) ∧
      (unitUp (.halted f)).units.get .b = some (unitB (.halted f)) ∧
      (unitUp (.ready (some (record .burst)) false)).units.get .b =
        some (unitB (.ready (some (record .burst)) false)) := by
  decide

/-- Port B's unit being set up, with SETUP_NOTICE waiting. -/
def settingUp : State :=
  (unitUp .settingUp).setEngine
    { up.engine with state := .waiting (.setup .b), current := some (cmd 11 1 (params 0x30000 2 0x30080 0x30084)) }

theorem witness_SetupWritesRun :
    settingUp.units.get .b = some (unitB .settingUp) ∧ settingUp.requester.job = none ∧
      jobOf settingUp (other .b) = none ∧ settingUp.engine.state = .waiting (.setup .b) ∧
      (awaiting settingUp (.notice .b .setupTail)).outstanding =
        { origin := .notice .b .setupTail, discarded := false } :: [] := by
  decide

theorem witness_RecordTaken :
    let s := telling.setUnit .b (some (unitB (.ready none false)))
    s.requester.job = none ∧ s.queues.get .b = .ring 3 :: [] ∧ ahead 5 3 < 4 ∧ jobOf s (other .b) = none := by
  decide

theorem witness_RecordWritten :
    let s := awaiting (unitUp (.ready (some (record .burst)) true)) (.notice .b .recordBurst)
    let t := awaiting (unitUp (.ready (some (record .head)) true)) (.notice .b .recordHead)
    s.outstanding = { origin := .notice .b .recordBurst, discarded := false } :: [] ∧
      s.units.get .b = some (unitB (.ready (some (record .burst)) true)) ∧
      t.units.get .b = some (unitB (.ready (some (record .head)) true)) := by
  decide

theorem witness_RecordFails :
    let s := awaiting ((ring3 (.tracking 10 4)).setUnit .b (some (unitB (.ready (some (record .head)) false))))
      (.notice .b .recordHead)
    s.units.get .b = some (unitB (.ready (some (record .head)) false)) ∧
      s.outstanding = { origin := .notice .b .recordHead, discarded := false } :: [] ∧
      (record .head).phase = .head ∧ (record .head).source = .ring 3 ∧
      (s.ring 3).body = some (body (.tracking 10 4)) := by
  decide

theorem witness_InterruptLines :
    up.units.get .b = none ∧ (unitUp (.ready none false)).units.get .b = some (unitB (.ready none false)) := by decide

theorem witness_TimeBaseSteps :
    let late := { holding with time := 99 }
    let soon := { holding with time := 98 }
    (late.resetLine = false ∧ (late.holds.get .a).isSome ∧ late.holds.get (other .a) = none ∧
      desc.holdLimit ≤ ((late.time.toNat + 1) % 4294967296 + 4294967296 - 0) % 4294967296) ∧
      ((soon.time.toNat + 1) % 4294967296 + 4294967296 - 0) % 4294967296 < desc.holdLimit ∧
      State.reset.resetLine = true ∧ ResetHolds State.reset := by
  decide

theorem witness_DescriptorRoundTrip : desc.FieldsOk ∧ parseDescriptor (descriptorParams desc) = some desc := by decide

/-- The time base steps on a state. -/
def timed (s : State) : State := { s with pending := [Instr.timeBaseStep] }

/-- A step whose command changes nothing but the time base. -/
abbrev steps (s : State) : Prop := step (timed s) = .next { s with time := s.time + 1 }

/-- `holding`, with its port's next serial as acceptance leaves it. -/
def passing : State := { holding with ports := ⟨{ holding.ports.a with nextSerial := 1 }, holding.ports.b⟩ }

theorem witness_StepKeepsPassage :
    (ListsBounded (timed passing) ∧ OrderComplete (timed passing) ∧ AnswersInOrder (timed passing) ∧
      ResetHolds (timed passing)) ∧ steps passing ∧
      ResetHolds { State.reset with pending := [Instr.resetRelease 0x10 .b] } := ⟨by decide, rfl, by decide⟩

theorem witness_StepKeepsNotices : NoticesAgree (timed telling) ∧ steps telling := ⟨by decide, rfl⟩

theorem witness_StepKeepsRingRecords :
    (SeedingWaits (timed (arming .reading none none)) ∧ AppliedTracked (timed (arming .reading none none))) ∧
      steps (arming .reading none none) := ⟨by decide, rfl⟩

theorem witness_StepKeepsTracking : TrackingSound (timed holding) ∧ steps holding := ⟨by decide, rfl⟩

theorem witness_StepKeepsHolds : HoldSound (timed passing) ∧ steps passing := ⟨by decide, rfl⟩

theorem witness_StepKeepsNoticeRings :
    NoticeSound (timed (unitUp (.ready none false))) ∧ steps (unitUp (.ready none false)) := ⟨by decide, rfl⟩

theorem witness_StepKeepsCommandRing : EngineSound (timed reported) ∧ steps reported := ⟨by decide, rfl⟩

theorem witness_StepKeepsRegions :
    RegionsSound (timed (ring3 (.tracking 10 4))) ∧ steps (ring3 (.tracking 10 4)) := ⟨by decide, rfl⟩

/-! ### The manual's worked examples -/

/-- The state a command leaves. -/
def after (c : Instr) (s : State) : State :=
  match exec c s with
  | .next t => t
  | _ => s

/-- A write of whole words. -/
def writing (addr : Word) (words : List Word) : Access := { addr := addr, transfer := .write (words.map full) }

/-- 1.1, "occupancy across an index wrap": tail 65,533, head 2, N = 8; slots 5, 6, 7, 0 and 1 are occupied. -/
theorem test_occupancy_across_wrap :
    (List.range 8).map (slotOccupied 8 2 65533) = [true, true, false, false, false, true, true, true] := by decide

/-- 2.1, "checking index writes": N = 16, tail 100, head 110. -/
theorem test_index_write_table :
    let d := { desc with slotCount := 16 }
    indexCheck d 110 100 .head .a (full 116) = none ∧
      indexCheck d 110 100 .head .a (full 117) = some .headJump ∧
      indexCheck d 110 100 .head .a (full 105) = some .headJump ∧
      indexCheck d 110 100 .tail .b (full 110) = none ∧
      indexCheck d 110 100 .tail .b (full 111) = some .tailJump ∧
      indexCheck d 110 100 .head .b (full 112) = some .wrongOwner ∧
      indexCheck d 110 100 .tail .a (full 0x10064) = some .indexForm ∧
      indexCheck d 110 100 .head .a { data := 116, enables := 0xE#4 } = some .indexForm := by decide

/-- R7: the written value of a fault record has zero in each byte not enabled. -/
theorem test_written_value : writtenValue { data := 0xAABBCCDD, enables := 0b0101#4 } = 0x00BB00DD := by decide

/-- 3.1, "slots touched by bursts": S = 2, N = 8, tail 12, head 17. -/
theorem test_occupancy_table :
    let d := { desc with dataBase := 0x20000, slotSize := 2 }
    let permitted := { d with writeback := true }
    occupancyCheck d 17 12 .a (writing 0x20008 [0, 0, 0, 0]) = none ∧
      occupancyCheck d 17 12 .a (writing 0x20018 [0, 0, 0, 0]) = some .overwrite ∧
      occupancyCheck d 17 12 .a (partRead 0x20000 8) = none ∧
      occupancyCheck d 17 12 .b (partRead 0x20030 4) = none ∧
      occupancyCheck d 17 12 .b (partRead 0x20000 4) = some .staleRead ∧
      occupancyCheck permitted 17 12 .b (writing 0x20020 [0, 0]) = none ∧
      occupancyCheck d 17 12 .b (writing 0x20020 [0, 0]) = some .wrongSide ∧
      occupancyCheck permitted 17 12 .b (writing 0x20010 [0]) = some .wrongSide := by decide

/-- Rings 2 and 6 of 3.3's example, ring 2 in a phase. -/
def twoRings (ph : RingPhase) : State :=
  (up.setBody 2 { body ph with desc := { desc with dataBase := 0x20000, slotSize := 2, headAddr := 0x50000, tailAddr := 0x50004 } }).setBody
    6 { body (.tracking 0 0) with
        desc := { desc with dataBase := 0x20040, slotCount := 4, headAddr := 0x50008, tailAddr := 0x5000C, guardMode := .observe } }

/-- 3.3, "charging a CROSSING access": ring 2 refuses, ring 6 forwards; with ring 2 FAULTED ring 6 is charged. -/
theorem test_crossing_charge :
    let s := after (.presentation .b) (offering (twoRings (.tracking 17 12)) .b (ask 0x20038 (.read 4)))
    let t := after (.presentation .a) (offering (twoRings (.tracking 17 12)) .a (ask 0x20078 (.write [full 0, full 0, full 0, full 0])))
    let u := after (.presentation .b) (offering (twoRings (.faulted fault none none)) .b (ask 0x20038 (.read 4)))
    ((s.inFlight .b).map (·.stage) = [.done .refused [0, 0, 0, 0]] ∧ (s.ring 2).count = 1 ∧ (s.ring 6).count = 0) ∧
      ((t.inFlight .a).map (·.stage) = [.eligible] ∧ (t.ring 2).count = 0 ∧ (t.ring 6).count = 1) ∧
      (u.inFlight .b).map (·.stage) = [.eligible] ∧ (u.ring 2).count = 0 ∧ (u.ring 6).count = 1 := by decide

/-- Ring 5 of 4.7's example, at time 1000, port A offering its write. -/
def burst : State :=
  offering
    { up.setBody 5
        { body (.tracking 22 16) with desc := { desc with dataBase := 0x3000, slotSize := 2, guardMode := .hold, holdLimit := 200 } }
      with time := 1000 }
    .a (ask 0x3028 (.write [full 1, full 2, full 3, full 4]))

/-- 4.7, "a burst held across two tail advances": the write is held on slots 5 and 6. -/
theorem test_burst_held :
    (after (.presentation .a) burst).holds.a = some { ring := 5, slots := [5, 6], first := 0x3028, start := 1000 } := by
  decide

/-- The same example: port B's tail write of `v` presented and granted while the write is held. -/
def advanced (v : Word) (s : State) : State :=
  after .grant (after (.presentation .b) (offering s .b (ask 0x20004 (.write [full v]))))

/-- The tail of 17 leaves slot 5 occupied and the write held; the tail of 22 releases it, uncounted. -/
theorem test_burst_released :
    let s := advanced 17 (after (.presentation .a) burst)
    s.holds.a.isSome = true ∧ (advanced 22 s).holds.a = none ∧ ((advanced 22 s).inFlight .a).map (·.stage) = [.eligible] ∧
      ((advanced 22 s).ring 5).count = 0 := by decide

/-- The step that makes the time base 1200 expires the write: HOLD_EXPIRED at its first word. -/
theorem test_burst_expires :
    let late := { after (.presentation .a) burst with time := 1199 }
    let s := after (.holdExpiry .a) late
    s.holds.a = none ∧ (s.inFlight .a).map (·.stage) = [.done .refused []] ∧ (s.ring 5).count = 1 ∧
      (s.ring 5).last = some { kind := .holdExpired, port := .a, address := 0x3028, time := 1200 } ∧
      (s.ring 5).pend.b = RingKind.holdExpired.bit ∧ (after .timeBaseStep { late with time := 1198 }).holds.a.isSome = true := by
  decide

/-- 5.1, "mark crossings": N = 16, high mark 12, low mark 4. -/
theorem test_mark_crossings :
    let b := { body (.tracking 0 0) with highMark := some 12, lowMark := some 4 }
    ([(10, 12), (12, 14), (14, 11), (11, 13), (13, 4), (4, 4), (4, 16), (16, 0)].map fun x =>
        pendingSet (markCrossing 3 b x.1 x.2 (ring3 (.tracking 0 0))) (.ring 3) .b) =
      [1, 0, 0, 1, 2, 0, 1, 2] := by decide

/-- 3.6, "an OBSERVE fault and quiesce recovery": the owners' writes of 0 recover the ring. -/
theorem test_quiesce_recovery :
    let s := after .grant (eligible (ring3 (.faulted fault (some 60) (some 29))) .a (ask 0x20000 (.write [full 0])) (.headWord 3) none)
    let t := after .grant (eligible s .b (ask 0x20004 (.write [full 0])) (.tailWord 3) none)
    (s.ring 3).fault? = some fault ∧ (t.ring 3).tracking? = some (0, 0) ∧
      (t.ring 3).pend.b = RingKind.recovered.bit := by decide

/-- 2.4, "seeding with traffic in flight": seeds 0000_002AH and 0000_0023H. -/
theorem test_seeds_settle :
    let s := awaiting (arming .reading (some (.word 0x2A)) none) (.engine (.seedRead 3 .tail))
    ((after (.seedResponse .okay 0x23) s).ring 3).tracking? = some (42, 35) ∧
      (after (.seedResponse .okay 0x23) s).engine.report.any (fun x => x.status == .ok) = true ∧
      ((after (.seedResponse .memErr 0x23) s).ring 3).stateCode = 1 := by decide

/-- 7.2, "head write bounds": tail 3, head 5. -/
theorem test_head_write_bounds :
    let s := up.setEngine { up.engine with head := 5, tail := 3 }
    ([5, 35, 36, 4, 0x10006].map fun v => headWriteValid s (full v)) = [true, true, false, false, false] := by decide

/-- 7.4, "a report error and a restart": the report burst to window base + 14H meets MEMERR. -/
theorem test_report_error_halts :
    let r := reported.setEngine
      { reported.engine with head := 2, tail := 0, report := some { index := 0, status := .ok, words := params 0 0 0 0 }, phase := some .burst }
    let s := after (.reportBurstResponse .memErr) (awaiting r (.engine .reportBurst))
    s.engine.state = .halted { cause := .reportError, slot := 0, address := 0x8014 } ∧ s.engine.report.isSome = true ∧
      s.device.a = DeviceKind.engineHalt.bit ∧ s.engine.requests.map (·.access) = [writing 0x8008 [0x201, 0x8014]] := by
  decide

/-- The status a command is reported with, the engine EXECUTING it. -/
def statusOf (i : Instr) (c : CurrentCommand) (s : State) : Option CommandStatus :=
  (after i (executes s c)).engine.report.map (·.status)

/-- 8.5, "the check sequence at work": ring 0 FREE or as named, ring 1 DEFINED, ring 2 TRACKING. -/
theorem test_check_sequence :
    let one := up.setBody 1 { body .defined with desc := { desc with dataBase := 0x10000, slotCount := 16, headAddr := 0x10100, tailAddr := 0x10104 } }
    let s := one.setBody 2 { body (.tracking 0 0) with desc := { desc with dataBase := 0x30000, headAddr := 0x60000, tailAddr := 0x60004 } }
    let zero := { desc with dataBase := 0x20000, headAddr := 0x20080, tailAddr := 0x20084 }
    let t := s.setBody 0 { body .defined with desc := zero, highMark := none, lowMark := none }
    let wide := { descriptorParams zero with w5 := 0x00000307 }
    statusOf .badCommand (cmd 0x0E 0 (params 0 0 0 0)) s = some .badCommand ∧
      statusOf .setMarks (cmd 6 30 (params 1 6 1 2)) s = some .badRing ∧
      statusOf .armRing (cmd 3 0 (params 0 0 0 0)) s = some .wrongState ∧
      statusOf .defineRing (cmd 1 0 wide) s = some .badField ∧
      statusOf .defineRing (cmd 1 0 (descriptorParams { zero with dataBase := 0x10080 })) s = some .overlap ∧
      statusOf .defineRing (cmd 1 0 (descriptorParams zero)) s = some .ok ∧
      statusOf .setMarks (cmd 6 0 (params 1 8 1 8)) t = some .badField ∧
      statusOf .setMarks (cmd 6 0 (params 1 6 1 2)) t = some .ok ∧
      statusOf .queryRing (cmd 9 0 (params 2 0 0 0)) t = some .badField ∧
      statusOf .releaseRing (cmd 2 2 (params 0 0 0 0)) t = some .wrongState := by decide

/-- 10.4, "a DEFINE_RING and what the engine makes of it": the words of slot 4, and bit 6 in the mask. -/
theorem test_define_ring_words :
    let w : Params := { w2 := 0x20000, w3 := 0x20080, w4 := 0x20084, w5 := 0x01000302, w6 := 0x0B000102, w7 := 500 }
    parseDescriptor w =
        some { dataBase := 0x20000, slotSize := 4, slotCount := 8, headAddr := 0x20080, tailAddr := 0x20084,
               producer := .a, guardMode := .hold, holdLimit := 500, recovery := .quiesce, writeback := false,
               notify := .b, mask := 0b001011 } ∧
      parseDescriptor { w with w6 := 0x4B000102 } = none := by decide

/-- 6.3, "two records and a full ring": slot 2 of a ring of 4 at base + 40H, sequence number 2, head write 3. -/
theorem test_record_goes_to_its_slot :
    let u := { unitB (.ready none false) with head := 2, tail := 0, seq := 2 }
    let s := after .recordTaking (telling.setUnit .b (some u))
    let t := after (.recordBurstResponse .okay) (awaiting (s.setJob none) (.notice .b .recordBurst))
    (s.requester.job.map fun j => (j.access.addr, j.access.transfer.length)) = some (0x30040, 8) ∧
      (s.units.b.map (·.phase)) =
        some (.ready (some { source := .ring 3, kinds := 5, words := recordWords telling (.ring 3) 5 2, slot := 2,
                             phase := .burst, cleared := false }) false) ∧
      s.queues.b = [] ∧ (s.ring 3).pend.b = 0 ∧ (t.requester.job.map (·.access)) = some (writing 0x30080 [3]) := by decide

/-- 6.8, "a halt and a restart": the failed record's source returns to the front, the line is asserted. -/
theorem test_record_fails :
    let s := (telling.setQueue .b [.device]).setDevice .b DeviceKind.peerReset.bit
    let u := after (.recordBurstResponse .memErr)
      (awaiting ((setPendingSet (.ring 3) .b 0 s).setUnit .b (some (unitB (.ready (some (record .burst)) false)))) (.notice .b .recordBurst))
    u.queues.b = [.ring 3, .device] ∧ (u.ring 3).pend.b = 1 ∧ intLine u .b = true ∧
      u.units.b.map (·.phase) = some (.halted { address := 0x30020, which := .burst }) := by decide

/-- 9.4, "rotation": the four grants of the example. -/
theorem test_rotation :
    let o := rotate .engine powerOnOrder
    o = [.port .a, .port .b, .notice, .engine] ∧ rotate (.port .a) o = [.port .b, .notice, .engine, .port .a] ∧
      rotate (.port .b) (rotate (.port .a) o) = [.notice, .engine, .port .a, .port .b] := by decide

/-- R176, R126: the release of RESET presents the 4-word initialisation burst; its grant opens the part. -/
theorem test_reset_release :
    let s := after (.resetRelease 0x80 .b) State.reset
    let t := after .grant s
    s.engine.requests.map (·.access) = [writing 0x40000 [0, 0, 0, 0]] ∧ s.mgmt = .b ∧ mayAccept s .a = false ∧
      t.engine.state = .idle ∧ t.windowMapped = true ∧ mayAccept t .a = true ∧ mayAccept t .b = true := by decide

/-- R92: both lines assert, A first; port A's queue then holds DEVICE with PEER_RESET, and port B's is empty. -/
theorem test_both_ports_reset :
    let s := after (.portResetAssert .b) (after (.portResetAssert .a) (ring3 .defined))
    s.queues.a = [.device] ∧ s.device.a = DeviceKind.peerReset.bit ∧ s.queues.b = [] ∧ s.device.b = 0 := by decide

/-- R107, R108: the reset of port B ends a setup of its unit with PEER_RESET and a NOTICE_OFF with OK. -/
theorem test_unit_wait_ends_at_reset :
    let status (s : State) := (after (.portResetAssert .b) s).engine.report.map (·.status)
    status (waits (unitUp .settingUp) (.setup .b) 11) = some .peerReset ∧
      status (waits (unitUp (.ready (some (record .burst)) true)) (.noticeOff .b) 12) = some .ok := by decide

/-- R58, R83, R177: port B's reset makes port A's held write ELIGIBLE, and keeps its QUEUED request. -/
theorem test_other_port_goes_on :
    let s := holding.setInFlight .a (holding.inFlight .a ++ [queued (ask 0x40000 (.read 1))])
    ((after (.portResetAssert .b) s).inFlight .a).map (·.stage) = [.eligible, .queued] := by decide

/-- R166: a response that is ready behind a GRANTED one waits. -/
theorem test_answers_wait_their_turn :
    let front := entry (ask 0x40000 (.read 1)) .granted (some .plain) none
    let behind := entry (ask 0x10040 (.write [full 1])) (.done .refused []) (some (.ringData 3)) none
    (after (.responseDeparture .a) (up.setInFlight .a [front, behind])).responseBus.a = [] := by decide

/-- 1.4, "overlap with a disarmed ring": the second and the third row of the table. -/
theorem test_overlap_rows :
    let s := up.setUnit .b (some { unitB (.ready none false) with base := 0x50000, slotCount := 16, headAddr := 0x50200, tailAddr := 0x50204 })
    let d := { desc with dataBase := 0x71000, slotCount := 32, headAddr := 0x70000, tailAddr := 0x70004 }
    descriptorApart s 5 d = true ∧ descriptorApart s 5 { d with headAddr := 0x50204 } = false ∧
      descriptorApart s 5 { d with headAddr := 0x71100 } = false := by decide

end Sys2Proof.Tests
end

section
/-! SUPPORT. DEFINE_RING's parameter words read and written out (R140, 10.4): each field's reading as an equivalence,
the bytes of a word, and the round trip. -/

namespace Sys2Proof.Machine

/-! ### Fields -/

theorem inRange_eq_some {lo hi n m : Nat} : inRange lo hi n = some m ↔ (lo ≤ n ∧ n ≤ hi) ∧ n = m := by
  simp [inRange]

theorem alignedAddr_eq_some {align : Nat} {w x : Word} :
    alignedAddr align w = some x ↔ w.toNat % align = 0 ∧ w = x := by
  simp [alignedAddr]

theorem withinSpace_eq_some {base : Word} {bytes : Nat} {x : Unit} :
    withinSpace base bytes = some x ↔ base.toNat + bytes ≤ 2 ^ 32 := by
  simp [withinSpace]

theorem portOfField_eq_some {n : Nat} {p : Port} : portOfField n = some p ↔ n = portNumber p := by
  unfold portOfField
  split <;> cases p <;> simp_all [portNumber]

theorem guardOfField_eq_some {n : Nat} {g : GuardMode} : guardOfField n = some g ↔ n = guardNumber g := by
  unfold guardOfField
  split <;> cases g <;> simp_all [guardNumber]

theorem recoveryOfField_eq_some {n : Nat} {r : Recovery} : recoveryOfField n = some r ↔ n = recoveryNumber r := by
  unfold recoveryOfField
  split <;> cases r <;> simp_all [recoveryNumber]

theorem flagOfField_eq_some {n : Nat} {b : Bool} : flagOfField n = some b ↔ n = if b then 1 else 0 := by
  unfold flagOfField
  split <;> cases b <;> simp_all

theorem maskOfField_eq_some {n : Nat} {m : KindSet} : maskOfField n = some m ↔ n = m.toNat := by
  have hm := m.isLt
  simp only [maskOfField, Option.ite_none_right_eq_some, Option.some.injEq]
  refine ⟨fun ⟨hn, he⟩ => ?_, fun h => ⟨h ▸ hm, by rw [h, BitVec.ofNat_toNat, BitVec.setWidth_eq]⟩⟩
  rw [← he, BitVec.toNat_ofNat, Nat.mod_eq_of_lt hn]

theorem limitOfField_eq_some {n l : Nat} : limitOfField n = some l ↔ (1 ≤ n ∧ n ≤ 65535) ∧ n = l := by
  simp [limitOfField]

/-! ### Bytes of a word -/

theorem byteOf_toNat (w : Word) (i : Nat) : (byteOf w i).toNat = w.toNat / 2 ^ (8 * i) % 256 := by
  simp [byteOf, Nat.shiftRight_eq_div_pow]

/-- A word is the sum of its bytes (log entry 26). -/
theorem eq_ofNat_bytes_iff {w : Word} {b₀ b₁ b₂ b₃ : Nat} (h₀ : b₀ < 256) (h₁ : b₁ < 256) (h₂ : b₂ < 256)
    (h₃ : b₃ < 256) : BitVec.ofNat 32 (b₀ + 256 * b₁ + 65536 * b₂ + 16777216 * b₃) = w ↔
      (byteOf w 0).toNat = b₀ ∧ (byteOf w 1).toNat = b₁ ∧ (byteOf w 2).toNat = b₂ ∧ (byteOf w 3).toNat = b₃ := by
  have hw := w.isLt
  rw [← BitVec.toNat_inj, BitVec.toNat_ofNat]
  simp only [byteOf_toNat]
  omega

/-! ### The round trip -/

/-- The slot sizes are the powers of 2 up to 64 (R4). -/
theorem mem_slotSizes_iff (n : Nat) : n ∈ [1, 2, 4, 8, 16, 32, 64] ↔ ∃ a ≤ 6, n = 2 ^ a := by
  constructor
  · intro h
    simp only [List.mem_cons, List.not_mem_nil, or_false] at h
    rcases h with rfl | rfl | rfl | rfl | rfl | rfl | rfl
    exacts [⟨0, by decide⟩, ⟨1, by decide⟩, ⟨2, by decide⟩, ⟨3, by decide⟩, ⟨4, by decide⟩, ⟨5, by decide⟩,
      ⟨6, by decide⟩]
  · rintro ⟨a, ha, rfl⟩
    interval_cases a <;> decide

theorem portNumber_lt (p : Port) : portNumber p < 256 := by cases p <;> decide

theorem guardNumber_lt (g : GuardMode) : guardNumber g < 256 := by cases g <;> decide

theorem recoveryNumber_lt (r : Recovery) : recoveryNumber r < 256 := by cases r <;> decide

theorem Descriptor.fieldsOk_iff (d : Descriptor) : d.FieldsOk ↔
    ∃ a c, a ≤ 6 ∧ (1 ≤ c ∧ c ≤ 15) ∧ d.slotSize = 2 ^ a ∧ d.slotCount = 2 ^ c ∧
      d.dataBase.toNat % (2 ^ a * 4) = 0 ∧ d.dataBase.toNat + 2 ^ c * 2 ^ a * 4 ≤ 2 ^ 32 ∧
      d.headAddr.toNat % 4 = 0 ∧ d.tailAddr.toNat % 4 = 0 ∧ 1 ≤ d.holdLimit ∧ d.holdLimit ≤ 65535 := by
  simp only [Descriptor.FieldsOk, mem_slotSizes_iff, List.mem_range]
  constructor
  · rintro ⟨⟨a, ha, hs⟩, ⟨c, hc, hc1, hn⟩, h⟩
    exact ⟨a, c, ha, ⟨hc1, by omega⟩, hs, hn, by rwa [hs, hn] at h⟩
  · rintro ⟨a, c, ha, ⟨hc1, hc⟩, hs, hn, h⟩
    exact ⟨⟨a, ha, hs⟩, ⟨c, by omega, hc1, hn⟩, by rwa [hs, hn]⟩

/-- The parameter words of a descriptor, word by word and byte by byte (10.4). -/
theorem descriptorParams_eq_iff {d : Descriptor} {a c : Nat} (ha : a ≤ 6) (hc : c ≤ 15) (hs : d.slotSize = 2 ^ a)
    (hn : d.slotCount = 2 ^ c) (hl : d.holdLimit ≤ 65535) (w : Params) : descriptorParams d = w ↔
      (w.w2 = d.dataBase ∧ w.w3 = d.headAddr ∧ w.w4 = d.tailAddr) ∧
      ((byteOf w.w5 0).toNat = a ∧ (byteOf w.w5 1).toNat = c ∧ (byteOf w.w5 2).toNat = portNumber d.producer ∧
        (byteOf w.w5 3).toNat = portNumber d.notify) ∧
      ((byteOf w.w6 0).toNat = guardNumber d.guardMode ∧ (byteOf w.w6 1).toNat = recoveryNumber d.recovery ∧
        (byteOf w.w6 2).toNat = (if d.writeback then 1 else 0) ∧ (byteOf w.w6 3).toNat = d.mask.toNat) ∧
      w.w7.toNat = d.holdLimit := by
  have hw : (if d.writeback then 1 else 0) < 256 := by split <;> decide
  have hm : d.mask.toNat < 256 := d.mask.isLt.trans (by decide)
  have h7 : BitVec.ofNat 32 d.holdLimit = w.w7 ↔ w.w7.toNat = d.holdLimit := by
    rw [← BitVec.toNat_inj, BitVec.toNat_ofNat]
    omega
  rw [← eq_ofNat_bytes_iff (by omega) (by omega) (portNumber_lt _) (portNumber_lt _),
    ← eq_ofNat_bytes_iff (guardNumber_lt _) (recoveryNumber_lt _) hw hm, ← h7]
  cases w
  simp only [descriptorParams, hs, hn, Nat.log2_two_pow, Params.mk.injEq, and_assoc]
  grind

/-- Words are read as a descriptor exactly when it is well formed and they are those written out for it (R4,
R140). -/
theorem parseDescriptor_eq_some (w : Params) (d : Descriptor) :
    parseDescriptor w = some d ↔ d.FieldsOk ∧ descriptorParams d = w := by
  rw [Descriptor.fieldsOk_iff]
  simp only [parseDescriptor, Option.bind_eq_bind, Option.bind_eq_some_iff, inRange_eq_some, alignedAddr_eq_some,
    withinSpace_eq_some, portOfField_eq_some, guardOfField_eq_some, recoveryOfField_eq_some, flagOfField_eq_some,
    maskOfField_eq_some, limitOfField_eq_some, Option.pure_def, Option.some.injEq]
  constructor
  · rintro ⟨a, ⟨⟨-, ha⟩, h0⟩, c, ⟨hc, h1⟩, base, ⟨hal, rfl⟩, -, hsp, _, ⟨hh, rfl⟩, _, ⟨ht, rfl⟩, p, hp, q, hq, g, hg,
      r, hr, wb, hwb, m, hm, l, ⟨hl, h7⟩, rfl⟩
    rw [h0] at ha
    rw [h1] at hc
    refine ⟨⟨a, c, ha, hc, rfl, rfl, hal, hsp, hh, ht, h7 ▸ hl⟩, ?_⟩
    exact (descriptorParams_eq_iff ha hc.2 rfl rfl (h7 ▸ hl.2) w).2
      ⟨⟨rfl, rfl, rfl⟩, ⟨h0, h1, hp, hq⟩, ⟨hg, hr, hwb, hm⟩, h7⟩
  · rintro ⟨⟨a, c, ha, hc, hs, hn, hal, hsp, hh, ht, hl⟩, hw⟩
    obtain ⟨⟨h2, h3, h4⟩, ⟨h50, h51, h52, h53⟩, ⟨h60, h61, h62, h63⟩, h7⟩ :=
      (descriptorParams_eq_iff ha hc.2 hs hn hl.2 w).1 hw
    refine ⟨a, ⟨⟨by omega, by omega⟩, h50⟩, c, ⟨by omega, h51⟩, d.dataBase, ⟨h2 ▸ hal, h2⟩, (), hsp,
      d.headAddr, ⟨h3 ▸ hh, h3⟩, d.tailAddr, ⟨h4 ▸ ht, h4⟩, _, h52, _, h53, _, h60, _, h61, _, h62, _, h63, _,
      ⟨h7 ▸ hl, h7⟩, ?_⟩
    rw [← hs, ← hn]

/-- Settles O51: reading and writing out match by `parseDescriptor_eq_some`. -/
theorem descriptorRoundTrip : Obligations.DescriptorRoundTrip :=
  ⟨fun d hd => (parseDescriptor_eq_some _ d).2 ⟨hd, rfl⟩, fun w d h => (parseDescriptor_eq_some w d).1 h⟩

end Sys2Proof.Machine
end

section
/-! SUPPORT. The invariants of the ring records (R5, R9, R13, R21, R36, R94), each put in the form in which its proof
goes entry by entry, source by source or owner by owner, and the rule by which a change keeps it. -/

namespace Sys2Proof.Machine

variable {s t : State}

theorem bothPorts_iff {f : Port → Prop} : bothPorts f ↔ ∀ p, f p :=
  ⟨fun h p => match p with | .a => h.1 | .b => h.2, fun h => ⟨h .a, h .b⟩⟩

/-! ### In-flight lists (R164, R165) -/

/-- At most one entry of a port's list waits between presentation and grant, and a HELD one carries no mark. -/
def OnceWaiting (l : List InFlight) : Prop :=
  (l.filter InFlight.isWaiting).length ≤ 1 ∧ ∀ e ∈ l, e.isHeld = true → e.mark = none

theorem oneWaiting_iff : OneWaiting s ↔ ∀ p, OnceWaiting (s.inFlight p) := bothPorts_iff

/-- The entry carries no pending apply of a ring's index word. -/
def InFlight.Unmarked (e : InFlight) : Prop := ∀ r w, e.marks r w = false

theorem InFlight.Unmarked.of_mark {e : InFlight} (h : e.mark = none) : e.Unmarked := by
  intro r w
  simp [InFlight.marks, h]

theorem InFlight.isWaiting_of_isEligible {e : InFlight} (h : e.isEligible = true) : e.isWaiting = true := by
  simp [InFlight.isWaiting, h]

theorem InFlight.isWaiting_of_isHeld {e : InFlight} (h : e.isHeld = true) : e.isWaiting = true := by
  simp [InFlight.isWaiting, h]

/-- Two waiting entries of a list are the same entry. -/
theorem OnceWaiting.unique {l : List InFlight} (h : OnceWaiting l) {x y : InFlight} (hx : x ∈ l) (hy : y ∈ l)
    (wx : x.isWaiting = true) (wy : y.isWaiting = true) : x = y := by
  have mx : x ∈ l.filter InFlight.isWaiting := List.mem_filter.2 ⟨hx, wx⟩
  have my : y ∈ l.filter InFlight.isWaiting := List.mem_filter.2 ⟨hy, wy⟩
  have hlen := h.1
  match hl : l.filter InFlight.isWaiting with
  | [] => simp [hl] at mx
  | [z] => simp_all
  | _ :: _ :: _ => simp [hl] at hlen

theorem eligibleEntry_of_mem {p : Port} (h : OnceWaiting (s.inFlight p)) {e : InFlight} (he : e ∈ s.inFlight p)
    (hel : e.isEligible = true) : eligibleEntry s p = some e := by
  obtain ⟨e', he'⟩ : ∃ e', eligibleEntry s p = some e' :=
    Option.isSome_iff_exists.1 (List.find?_isSome.2 ⟨e, he, hel⟩)
  have heq : e' = e := h.unique (List.mem_of_find?_eq_some he') he
    (InFlight.isWaiting_of_isEligible (List.find?_some he')) (InFlight.isWaiting_of_isEligible hel)
  exact heq ▸ he'

/-- The ELIGIBLE entry of a port meets `f` when every ELIGIBLE entry of its list does. -/
theorem eligibleMeets_iff {p : Port} (h : OnceWaiting (s.inFlight p)) {f : InFlight → Prop} :
    eligibleMeets s p f ↔ ∀ e ∈ s.inFlight p, e.isEligible = true → f e := by
  constructor
  · intro hf e he hel
    exact hf e (eligibleEntry_of_mem h he hel)
  · intro hf e he
    exact hf e (List.mem_of_find?_eq_some he) (List.find?_some he)

/-- How a list may change apart from the forwarding of a marked index write: at most one entry waits still, and an
ELIGIBLE entry was ELIGIBLE before with its mark, or carries no mark of a ring. -/
structure ListPasses (l l' : List InFlight) : Prop where
  once : OnceWaiting l → OnceWaiting l'
  marks : OnceWaiting l → ∀ e ∈ l', e.isEligible = true → e ∈ l ∨ e.Unmarked

theorem ListPasses.refl (l : List InFlight) : ListPasses l l := ⟨id, fun _ _ he _ => .inl he⟩

theorem ListPasses.of_eq {l l' : List InFlight} (h : l' = l) : ListPasses l l' := h ▸ .refl l

theorem ListPasses.of_sublist {l l' : List InFlight} (h : l'.Sublist l) : ListPasses l l' where
  once := fun ⟨hl, hm⟩ => ⟨(h.filter _).length_le.trans hl, fun e he => hm e (h.subset he)⟩
  marks := fun _ _ he _ => .inl (h.subset he)

/-- An entry that does not wait joins the list. -/
theorem ListPasses.append {e : InFlight} (l : List InFlight) (h : e.isWaiting = false) : ListPasses l (l ++ [e]) where
  once := fun ⟨hl, hm⟩ => by
    refine ⟨by simpa [h] using hl, fun x hx hh => ?_⟩
    rcases List.mem_append.1 hx with hx | hx
    · exact hm x hx hh
    · obtain rfl : x = e := by simpa using hx
      simp [InFlight.isWaiting_of_isHeld hh] at h
  marks := fun _ x hx hel => by
    rcases List.mem_append.1 hx with hx | hx
    · exact .inl hx
    · obtain rfl : x = e := by simpa using hx
      simp [InFlight.isWaiting_of_isEligible hel] at h

/-- What becomes of one entry when no marked index write is forwarded: it stays, it does not wait afterwards, it is
released from HELD, or it loses its mark. -/
inductive EntryPasses : InFlight → InFlight → Prop
  | stays (e : InFlight) : EntryPasses e e
  | leaves {e e' : InFlight} (h : e'.isWaiting = false) : EntryPasses e e'
  | released {e : InFlight} (h : e.isHeld = true) : EntryPasses e { e with stage := .eligible }
  | unmarked {e : InFlight} (h : e.isEligible = true) : EntryPasses e { e with mark := none }

theorem EntryPasses.isWaiting {e e' : InFlight} (h : EntryPasses e e') (hw : e'.isWaiting = true) :
    e.isWaiting = true := by
  cases h with
  | stays => exact hw
  | leaves h => simp [h] at hw
  | released h => exact InFlight.isWaiting_of_isHeld h
  | unmarked h => exact InFlight.isWaiting_of_isEligible h

theorem EntryPasses.isHeld {e e' : InFlight} (h : EntryPasses e e') (hh : e'.isHeld = true) : e' = e := by
  cases h with
  | stays => rfl
  | leaves h => simp [InFlight.isWaiting_of_isHeld hh] at h
  | released => simp [InFlight.isHeld] at hh
  | unmarked h =>
    simp only [InFlight.isHeld, InFlight.isEligible, beq_iff_eq] at hh h
    simp [h] at hh

theorem EntryPasses.isEligible {e e' : InFlight} (h : EntryPasses e e') (hm : e.isHeld = true → e.mark = none)
    (he : e'.isEligible = true) : e' = e ∨ e'.Unmarked := by
  cases h with
  | stays => exact .inl rfl
  | leaves h => simp [InFlight.isWaiting_of_isEligible he] at h
  | released h => exact .inr (.of_mark (hm h))
  | unmarked => exact .inr (.of_mark rfl)

theorem ListPasses.of_forall₂ {l l' : List InFlight} (h : List.Forall₂ EntryPasses l l') : ListPasses l l' := by
  have hlen : (l'.filter InFlight.isWaiting).length ≤ (l.filter InFlight.isWaiting).length := by
    induction h with
    | nil => simp
    | @cons e e' _ _ he _ ih =>
      have := he.isWaiting
      cases hw : e'.isWaiting <;> cases hv : e.isWaiting <;> simp_all
      omega
  have hfrom : ∀ e' ∈ l', ∃ e ∈ l, EntryPasses e e' := by
    clear hlen
    induction h with
    | nil => simp
    | cons he _ ih =>
      intro x hx
      rcases List.mem_cons.1 hx with rfl | hx
      · exact ⟨_, by simp, he⟩
      · obtain ⟨y, hy, hxy⟩ := ih x hx
        exact ⟨y, by simp [hy], hxy⟩
  refine ⟨fun ⟨hl, hm⟩ => ⟨hlen.trans hl, fun e' he' hh => ?_⟩, fun ⟨_, hm⟩ e' he' hel => ?_⟩
  · obtain ⟨e, he, hp⟩ := hfrom e' he'
    have heq := hp.isHeld hh
    exact hm e' (heq ▸ he) hh
  · obtain ⟨e, he, hp⟩ := hfrom e' he'
    exact (hp.isEligible (hm e he) hel).imp_left fun heq : e' = e => heq ▸ he

theorem ListPasses.updateFirst {test : InFlight → Bool} {f : InFlight → InFlight} (l : List InFlight)
    (h : ∀ e, test e = true → EntryPasses e (f e)) : ListPasses l (updateFirst test f l) := by
  apply of_forall₂
  induction l with
  | nil => exact .nil
  | cons x xs ih =>
    rw [Machine.updateFirst]
    split
    · rename_i hx
      exact .cons (h x hx) (List.forall₂_same.2 fun e _ => .stays e)
    · exact .cons (.stays x) ih

theorem ListPasses.map {f : InFlight → InFlight} (l : List InFlight) (h : ∀ e, EntryPasses e (f e)) :
    ListPasses l (l.map f) :=
  of_forall₂ (List.forall₂_map_right_iff.2 (List.forall₂_same.2 fun e _ => h e))

/-! ### Tracking (R5) -/

/-- What R5's invariant asks of an ELIGIBLE entry of port `p` beside a ring's body, phase by phase (R26 to R28, R34,
R40). -/
def EntryFits (b : RingBody) (p : Port) (r : RingId) (e : InFlight) : Prop :=
  match b.phase with
  | .defined => True
  | .seeding rec =>
    (rec.step = .reading → e.marks r .head = false ∧ e.marks r .tail = false) ∧
      ∀ f, rec.purpose = .clearFault f → MarkedByOwner b.desc p r e
  | .tracking head tail => AdvanceFits b.desc head tail p r e
  | .faulted _ oh ot =>
    (e.marks r .head = true → p = b.desc.producer ∧ oh = none) ∧
      (e.marks r .tail = true → p = other b.desc.producer ∧ ot = none)

/-- What R5's invariant asks of a ring's body alone. -/
def BodyFits (b : RingBody) : Prop :=
  b.desc.slotCount ≤ 32768 ∧ ∀ head tail, b.phase = .tracking head tail → distance head tail ≤ b.desc.slotCount

/-- The class of an entry marked for an index word (R32). -/
def InFlight.NamesClass (e : InFlight) : Prop :=
  ∀ r : RingId,
    (e.marks r .head = true → e.cls = some (.headWord r)) ∧ (e.marks r .tail = true → e.cls = some (.tailWord r))

theorem EntryFits.of_unmarked {b : RingBody} {p : Port} {r : RingId} {e : InFlight}
    (h : ∀ w, e.marks r w = false) : EntryFits b p r e := by
  unfold EntryFits
  split <;> simp [h, AdvanceFits, MarkedByOwner]

theorem InFlight.Unmarked.namesClass {e : InFlight} (h : e.Unmarked) : e.NamesClass := by
  intro r
  simp [h r .head, h r .tail]

/-- The clauses of one ring, phase by phase. -/
theorem ringTracked_iff (r : RingId) (hw : ∀ p, OnceWaiting (s.inFlight p)) :
    RingTracked s r ↔ ∀ b, (s.ring r).body = some b →
      BodyFits b ∧ ∀ p, ∀ e ∈ s.inFlight p, e.isEligible = true → EntryFits b p r e := by
  refine forall_congr' fun b => imp_congr_right fun _ => ?_
  have hm (f : Port → InFlight → Prop) : (bothPorts fun p => eligibleMeets s p (f p)) ↔
      ∀ p, ∀ e ∈ s.inFlight p, e.isEligible = true → f p e :=
    bothPorts_iff.trans (forall_congr' fun p => eligibleMeets_iff (hw p))
  rcases hph : b.phase with _ | rec | ⟨head, tail⟩ | ⟨f, oh, ot⟩ <;>
    simp only [trackedFits, seedingDrained, observationsFresh, EntryFits, BodyFits, hph]
  · simp
  · cases hpu : rec.purpose <;> cases hst : rec.step <;>
      simp only [Bool.and_eq_true, Bool.or_eq_true, decide_eq_true_eq, hm] <;> simp [forall_and]
  · simp only [decide_eq_true_eq, hm]
    simp [and_assoc]
  · simp only [decide_eq_true_eq, hm]
    simp

/-- R5's invariant entry by entry: what each list, each ELIGIBLE entry and each ring's body has to meet. -/
theorem trackingSound_iff : TrackingSound s ↔
    (∀ p, OnceWaiting (s.inFlight p)) ∧ (∀ p, ∀ e ∈ s.inFlight p, e.isEligible = true → e.NamesClass) ∧
      ∀ r b, (s.ring r).body = some b →
        BodyFits b ∧ ∀ p, ∀ e ∈ s.inFlight p, e.isEligible = true → EntryFits b p r e := by
  refine (and_congr_left' oneWaiting_iff).trans (and_congr_right fun hw => and_congr ?_ ?_)
  · exact bothPorts_iff.trans (forall_congr' fun p => eligibleMeets_iff (hw p))
  · exact forall_congr' fun r => ringTracked_iff r hw

/-- The rings' bodies are the same. -/
@[simp] def SameBodies (s t : State) : Prop := ∀ r, (t.ring r).body = (s.ring r).body

/-- Lists that pass keep R5's invariant, the bodies being the same. -/
theorem TrackingSound.mono (h : TrackingSound s) (lists : ∀ p, ListPasses (s.inFlight p) (t.inFlight p))
    (bodies : SameBodies s t) : TrackingSound t := by
  obtain ⟨hw, hc, hb⟩ := trackingSound_iff.1 h
  refine trackingSound_iff.2 ⟨fun p => (lists p).once (hw p), fun p e he hel => ?_, fun r b hr => ?_⟩
  · exact ((lists p).marks (hw p) e he hel).elim (fun he' => hc p e he' hel) (·.namesClass)
  · obtain ⟨hf, hb⟩ := hb r b (bodies r ▸ hr)
    exact ⟨hf, fun p e he hel => ((lists p).marks (hw p) e he hel).elim (fun he' => hb p e he' hel)
      fun hu => .of_unmarked (hu r)⟩

theorem TrackingSound.congr (h : TrackingSound s) (lists : ∀ p, t.inFlight p = s.inFlight p)
    (bodies : SameBodies s t) : TrackingSound t := h.mono (fun p => .of_eq (lists p)) bodies

/-- A ring's body may be replaced when it and each ELIGIBLE entry fit. -/
theorem TrackingSound.setBody (h : TrackingSound s) {r : RingId} {b' : RingBody} (fits : BodyFits b')
    (entries : ∀ p, ∀ e ∈ s.inFlight p, e.isEligible = true → EntryFits b' p r e) :
    TrackingSound (s.setBody r b') := by
  obtain ⟨hw, hc, hb⟩ := trackingSound_iff.1 h
  refine trackingSound_iff.2 ⟨hw, hc, fun r' b hr => ?_⟩
  by_cases hrr : r' = r
  · subst hrr
    obtain rfl : b' = b := by simpa using hr
    exact ⟨fits, entries⟩
  · exact hb r' b (by simpa [State.ring_setBody_ne _ _ hrr] using hr)

/-! ### Seeding (R13) and applied marks (R36) -/

theorem RingEntry.isSeeding_congr {e e' : RingEntry} (h : e.body = e'.body) : e.isSeeding = e'.isSeeding := by
  simp only [RingEntry.isSeeding, RingEntry.phase?, h]

theorem RingEntry.isTracking_congr {e e' : RingEntry} (h : e.body = e'.body) : e.isTracking = e'.isTracking := by
  simp only [RingEntry.isTracking, RingEntry.phase?, h]

/-- No ring enters SEEDING, and the engine's state stays while one is. -/
theorem SeedingWaits.mono (h : SeedingWaits s)
    (rings : ∀ r, (t.ring r).isSeeding = true → (s.ring r).isSeeding = true)
    (engine : ∀ r, (t.ring r).isSeeding = true → s.engine.state = .waiting (.seeding r) →
      t.engine.state = s.engine.state) : SeedingWaits t := by
  intro r hr
  have hs := h r (rings r hr)
  exact (engine r hr hs).trans hs

theorem SeedingWaits.congr (h : SeedingWaits s) (bodies : SameBodies s t)
    (engine : t.engine.state = s.engine.state) : SeedingWaits t :=
  h.mono (fun r => (RingEntry.isSeeding_congr (bodies r)).le) fun _ _ _ => engine

theorem SeedingWaits.of_none (h : ∀ r, (s.ring r).isSeeding = false) : SeedingWaits s := by
  intro r hr
  simp [h r] at hr

/-- The applied marks of `l` are among those of `l'`. -/
def AppliedAmong (l l' : List OutEntry) : Prop := ∀ o ∈ l, ∀ ring ∈ o.applied?, ∃ o' ∈ l', ring ∈ o'.applied?

theorem AppliedAmong.refl (l : List OutEntry) : AppliedAmong l l := fun o ho _ hr => ⟨o, ho, hr⟩

theorem AppliedAmong.of_eq {l l' : List OutEntry} (h : l = l') : AppliedAmong l l' := h ▸ .refl l

theorem AppliedAmong.of_subset {l l' : List OutEntry} (h : l ⊆ l') : AppliedAmong l l' :=
  fun o ho _ hr => ⟨o, h ho, hr⟩

theorem AppliedAmong.map {f : OutEntry → OutEntry} (l : List OutEntry)
    (h : ∀ o, (f o).applied? = o.applied? ∨ (f o).applied? = none) : AppliedAmong (l.map f) l := by
  intro o ho ring hr
  obtain ⟨o', ho', rfl⟩ := List.mem_map.1 ho
  rcases h o' with h | h
  · exact ⟨o', ho', h ▸ hr⟩
  · simp [h] at hr

/-- No applied mark appears, and no ring leaves TRACKING. -/
theorem AppliedTracked.mono (h : AppliedTracked s)
    (outstanding : AppliedAmong t.outstanding s.outstanding)
    (rings : ∀ r, (s.ring r).isTracking = true → (t.ring r).isTracking = true) : AppliedTracked t := by
  intro o ho ring hring
  obtain ⟨o', ho', hr'⟩ := outstanding o ho ring hring
  obtain ⟨r, hr, ht⟩ := h o' ho' ring hr'
  exact ⟨r, hr, rings r ht⟩

theorem AppliedTracked.congr (h : AppliedTracked s) (outstanding : t.outstanding = s.outstanding)
    (bodies : SameBodies s t) : AppliedTracked t :=
  h.mono (.of_eq outstanding) fun r => (RingEntry.isTracking_congr (bodies r).symm).le

/-! ### Pending sets and queues (R9, R94) -/

/-- The agreement of queues and pending sets, source by source. -/
theorem noticesAgree_iff : NoticesAgree s ↔ ∀ p,
    (s.queues.get p).Nodup ∧ (∀ src, src ∈ s.queues.get p ↔ pendingSet s src p ≠ 0) ∧
      ∀ r, pendingSet s (.ring r) p ≠ 0 → ∃ b ∈ (s.ring r).body, b.desc.notify = p := by
  refine bothPorts_iff.trans (forall_congr' fun p => and_congr_right fun _ => ?_)
  refine ⟨fun ⟨hr, hd, hn⟩ => ⟨fun src => ?_, hn⟩, fun ⟨hs, hn⟩ => ⟨fun r => hs (.ring r), hs .device, hn⟩⟩
  cases src with
  | ring r => exact hr r
  | device => exact hd

/-- Queues, pending sets and bodies are the same. -/
@[simp] def SameNotices (s t : State) : Prop :=
  t.queues = s.queues ∧ t.device = s.device ∧ (∀ r, (t.ring r).pend = (s.ring r).pend) ∧ SameBodies s t

theorem NoticesAgree.congr (h : NoticesAgree s) (same : SameNotices s t) : NoticesAgree t := by
  obtain ⟨queues, device, pend, bodies⟩ := same
  simp only [SameBodies] at bodies
  simpa only [NoticesAgree, queues, device, pend, bodies] using h

/-- A ring's body may be replaced when the notify port stays or no kind is pending for it. -/
theorem NoticesAgree.setBody (h : NoticesAgree s) {r : RingId} {b b' : RingBody} (hb : (s.ring r).body = some b)
    (notify : b'.desc.notify = b.desc.notify ∨ (s.ring r).pend.get b.desc.notify = 0) :
    NoticesAgree (s.setBody r b') := by
  have hpend (r' : RingId) : ((s.setBody r b').ring r').pend = (s.ring r').pend := by
    by_cases hr : r' = r
    · subst hr; simp
    · rw [State.ring_setBody_ne _ _ hr]
  refine bothPorts_iff.2 fun p => ?_
  obtain ⟨hn, hr, hd, hbody⟩ := bothPorts_iff.1 h p
  refine ⟨hn, fun r' => hpend r' ▸ hr r', hd, fun r' hne => ?_⟩
  rw [hpend] at hne
  by_cases hrr : r' = r
  · subst hrr
    obtain ⟨b₀, hb₀, rfl⟩ := hbody r' hne
    obtain rfl := Option.mem_unique hb hb₀
    exact ⟨b', by simp, notify.resolve_right hne⟩
  · exact State.ring_setBody_ne s b' hrr ▸ hbody r' hne

/-- One source's set for one port changes to `k`: the source is in that port's queue exactly when `k` is not empty,
and everything else of sets and queues stays (R93 to R98). -/
theorem NoticesAgree.setSource (h : NoticesAgree s) (src : Source) (p : Port) (k : KindSet)
    (self : pendingSet t src p = k)
    (others : ∀ src' q, (src', q) ≠ (src, p) → pendingSet t src' q = pendingSet s src' q)
    (bodies : ∀ r, (t.ring r).body = (s.ring r).body) (queue : ∀ q, q ≠ p → t.queues.get q = s.queues.get q)
    (nodup : (t.queues.get p).Nodup) (mem : src ∈ t.queues.get p ↔ k ≠ 0)
    (memOthers : ∀ src', src' ≠ src → (src' ∈ t.queues.get p ↔ src' ∈ s.queues.get p))
    (tells : k ≠ 0 → ∀ r, src = .ring r → ∃ b ∈ (s.ring r).body, b.desc.notify = p) : NoticesAgree t := by
  rw [noticesAgree_iff] at h ⊢
  intro q
  obtain ⟨hn, hs, hb⟩ := h q
  by_cases hq : q = p
  · subst hq
    refine ⟨nodup, fun src' => ?_, fun r hne => ?_⟩
    · by_cases hsrc : src' = src
      · subst hsrc; rw [mem, self]
      · rw [memOthers _ hsrc, hs, others _ _ (by simp [hsrc])]
    · rw [bodies]
      by_cases hsrc : Source.ring r = src
      · exact tells (by rwa [hsrc, self] at hne) r hsrc.symm
      · exact hb r (by rwa [others _ _ (by simp [hsrc])] at hne)
  · have ho (src' : Source) : pendingSet t src' q = pendingSet s src' q := others _ _ (by simp [hq])
    simpa only [queue q hq, ho, bodies] using ⟨hn, hs, hb⟩

/-! ### Regions (R4, R20, R21) -/

/-- Who reserves regions (R20). -/
inductive Owner where
  | ring (r : RingId)
  | window
  | unit (p : Port)
deriving DecidableEq

/-- The regions an owner reserves (R20). -/
def reservedBy (s : State) : Owner → List Region
  | .ring r => ringReserved s r
  | .window => [windowRegion s]
  | .unit p => unitReserved s p

theorem overlaps_comm (g h : Region) : g.overlaps h = h.overlaps g := by
  simp only [Region.overlaps, Bool.and_comm]

/-- The owners in the order of `reservations`. -/
def owners : List Owner := ringIds.map .ring ++ [.window, .unit .a, .unit .b]

theorem reservations_eq : reservations s = owners.map (reservedBy s) := by
  simp [reservations, owners, reservedBy, Function.comp_def]

theorem mem_owners (o : Owner) : o ∈ owners := by
  rcases o with r | _ | p
  · simp [owners]
  · simp [owners]
  · cases p <;> simp [owners]

theorem owners_nodup : owners.Nodup := by decide

/-- The reserved regions lie apart when those of each owner do, and those of any two owners. -/
theorem reservations_apart_iff : PairwiseApart (reservations s).flatten ↔
    (∀ o, PairwiseApart (reservedBy s o)) ∧
      ∀ o o', o ≠ o' → ∀ g ∈ reservedBy s o, ∀ h ∈ reservedBy s o', g.overlaps h = false := by
  rw [PairwiseApart, List.pairwise_flatten, reservations_eq, List.forall_mem_map, List.pairwise_map]
  refine and_congr ⟨fun h o => h o (mem_owners o), fun h o _ => h o⟩ ?_
  refine ⟨fun h o o' hne => ?_, fun h => owners_nodup.imp fun hne => h _ _ hne⟩
  have : Std.Symm fun a b => ∀ x ∈ reservedBy s a, ∀ y ∈ reservedBy s b, x.overlaps y = false :=
    ⟨fun a b hs x hx y hy => overlaps_comm x y ▸ hs y hy x hx⟩
  exact h.forall (mem_owners o) (mem_owners o') hne

theorem unitReserved_eq (s : State) (p : Port) :
    unitReserved s p = ((s.units.get p).map NoticeUnit.regions).getD [] := by
  rw [unitReserved]
  cases s.units.get p <;> rfl

theorem ringReserved_of_body {r : RingId} {b : RingBody} (h : (s.ring r).body = some b) :
    ringReserved s r = b.desc.regions := by
  rw [ringReserved, h]

theorem ringReserved_of_free {r : RingId} (h : (s.ring r).body = none) : ringReserved s r = [] := by
  rw [ringReserved, h]

/-- One owner's regions change to ones that lie apart from one another and from every other owner's. -/
theorem reservations_apart_replace (h : PairwiseApart (reservations s).flatten) (o : Owner)
    (others : ∀ o', o' ≠ o → reservedBy t o' = reservedBy s o') (own : PairwiseApart (reservedBy t o))
    (apart : ∀ o', o' ≠ o → ∀ g ∈ reservedBy t o, ∀ h ∈ reservedBy s o', g.overlaps h = false) :
    PairwiseApart (reservations t).flatten := by
  obtain ⟨hown, hall⟩ := reservations_apart_iff.1 h
  refine reservations_apart_iff.2 ⟨fun o' => ?_, fun o₁ o₂ hne => ?_⟩
  · by_cases ho : o' = o
    · exact ho ▸ own
    · exact others o' ho ▸ hown o'
  · by_cases h₁ : o₁ = o
    · subst h₁
      rw [others o₂ hne.symm]
      exact apart o₂ hne.symm
    · rw [others o₁ h₁]
      by_cases h₂ : o₂ = o
      · subst h₂
        intro g hg h hh
        rw [overlaps_comm]
        exact apart o₁ h₁ h hh g hg
      · rw [others o₂ h₂]
        exact hall o₁ o₂ hne

/-- Every owner keeps its regions or gives them up, and the window stays. -/
theorem RegionsSound.mono (h : RegionsSound s)
    (bodies : ∀ r, ∀ b' ∈ (t.ring r).body, ∃ b ∈ (s.ring r).body,
      b'.desc.regions = b.desc.regions ∧ (b.desc.FieldsOk → b'.desc.FieldsOk))
    (units : ∀ p, t.units.get p = none ∨
      (t.units.get p).map NoticeUnit.regions = (s.units.get p).map NoticeUnit.regions)
    (window : t.ctlBase = s.ctlBase) (line : t.resetLine = s.resetLine)
    (engine : s.resetLine = true → s.engine.state = .init → t.engine.state = .init) :
    RegionsSound t := by
  obtain ⟨hf, ha, hr⟩ := h
  have hown (o : Owner) : reservedBy t o = reservedBy s o ∨ reservedBy t o = [] := by
    rcases o with r | _ | p
    · rcases hb : (t.ring r).body with _ | b'
      · exact .inr (ringReserved_of_free hb)
      · obtain ⟨b, hbs, hreg, -⟩ := bodies r b' hb
        exact .inl ((ringReserved_of_body hb).trans (hreg.trans (ringReserved_of_body hbs).symm))
    · simp [reservedBy, windowRegion, windowBase, window]
    · rcases units p with hu | hu
      · exact .inr (by simp only [reservedBy, unitReserved_eq, hu, Option.map_none, Option.getD_none])
      · exact .inl (by simp only [reservedBy, unitReserved_eq, hu])
  have hmem {o : Owner} {g : Region} (hg : g ∈ reservedBy t o) : g ∈ reservedBy s o := by
    rcases hown o with ho | ho
    · exact ho ▸ hg
    · rw [ho] at hg
      exact absurd hg List.not_mem_nil
  refine ⟨fun r b' hb => ?_, ?_, fun hl => ?_⟩
  · obtain ⟨b, hbs, -, hfo⟩ := bodies r b' hb
    exact hfo (hf r b hbs)
  · obtain ⟨hself, hall⟩ := reservations_apart_iff.1 ha
    refine reservations_apart_iff.2 ⟨fun o => ?_, fun o o' hne g hg h hh => hall o o' hne g (hmem hg) h (hmem hh)⟩
    rcases hown o with ho | ho
    · exact ho ▸ hself o
    · exact ho ▸ .nil
  · obtain ⟨hrings, hua, hub, he⟩ := hr (line ▸ hl)
    have hunit (p : Port) (hs : s.units.get p = none) : t.units.get p = none := by
      simpa [hs] using units p
    refine ⟨fun r => ?_, hunit .a hua, hunit .b hub, engine (line ▸ hl) he⟩
    rcases hb : (t.ring r).body with _ | b'
    · rfl
    · obtain ⟨b, hbs, -⟩ := bodies r b' hb
      simp [hrings r] at hbs

/-- The units' regions, the window, RESET and the engine's state are the same. -/
@[simp] def SameWindow (s t : State) : Prop :=
  (∀ p, (t.units.get p).map NoticeUnit.regions = (s.units.get p).map NoticeUnit.regions) ∧
    t.ctlBase = s.ctlBase ∧ t.resetLine = s.resetLine ∧ t.engine.state = s.engine.state

/-- Bodies keep their regions and well-formed fields, and the rest is the same. -/
theorem RegionsSound.mono_bodies (h : RegionsSound s)
    (bodies : ∀ r, ∀ b' ∈ (t.ring r).body, ∃ b ∈ (s.ring r).body,
      b'.desc.regions = b.desc.regions ∧ (b.desc.FieldsOk → b'.desc.FieldsOk)) (same : SameWindow s t) :
    RegionsSound t := by
  obtain ⟨units, window, line, engine⟩ := same
  exact h.mono bodies (fun p => .inr (units p)) window line fun _ hs => engine.trans hs

theorem RegionsSound.congr (h : RegionsSound s) (bodies : SameBodies s t) (same : SameWindow s t) : RegionsSound t :=
  h.mono_bodies (fun r b hb => ⟨b, bodies r ▸ hb, rfl, id⟩) same

end Sys2Proof.Machine
end

section
/-! SUPPORT. What a change keeps: the five invariants of the ring records at once, the rule of each update of the state,
and the shared operations, each of them a composition of such updates. -/

namespace Sys2Proof.Machine

/-- From `s` to `t` each invariant that does not read the in-flight lists is kept (R94, R13, R36, R21). -/
structure KeepsTables (s t : State) : Prop where
  notices : NoticesAgree s → NoticesAgree t
  seeding : SeedingWaits s → SeedingWaits t
  applied : AppliedTracked s → AppliedTracked t
  regions : RegionsSound s → RegionsSound t

/-- From `s` to `t` each invariant of the ring records is kept (R94, R13, R36, R21, R5). -/
structure Keeps (s t : State) : Prop extends KeepsTables s t where
  tracking : TrackingSound s → TrackingSound t

variable {s t u : State}

theorem KeepsTables.trans (h : KeepsTables s t) (h' : KeepsTables t u) : KeepsTables s u :=
  ⟨h'.notices ∘ h.notices, h'.seeding ∘ h.seeding, h'.applied ∘ h.applied, h'.regions ∘ h.regions⟩

theorem Keeps.refl (s : State) : Keeps s s := ⟨⟨id, id, id, id⟩, id⟩

theorem Keeps.trans (h : Keeps s t) (h' : Keeps t u) : Keeps s u :=
  ⟨h.toKeepsTables.trans h'.toKeepsTables, h'.tracking ∘ h.tracking⟩

/-! ### Updates of the state -/

/-- What the invariants read is the same. -/
@[simp] def SameRecords (s t : State) : Prop :=
  t.rings = s.rings ∧ t.queues = s.queues ∧ t.device = s.device ∧ t.ports = s.ports ∧
    t.outstanding = s.outstanding ∧ t.engine.state = s.engine.state ∧ t.units = s.units ∧ t.ctlBase = s.ctlBase ∧
    t.resetLine = s.resetLine

/-- What the invariants read but pending sets and queues is the same. -/
@[simp] def SameButNotices (s t : State) : Prop :=
  SameBodies s t ∧ t.ports = s.ports ∧ t.outstanding = s.outstanding ∧ t.engine.state = s.engine.state ∧
    t.units = s.units ∧ t.ctlBase = s.ctlBase ∧ t.resetLine = s.resetLine

/-- Only pending sets and queues change, and they agree still. -/
theorem Keeps.of_notices (notices : NoticesAgree s → NoticesAgree t) (same : SameButNotices s t) : Keeps s t := by
  obtain ⟨bodies, ports, outstanding, engine, units, base, line⟩ := same
  have hlist (p : Port) : t.inFlight p = s.inFlight p := by simp only [State.inFlight, ports]
  exact
    { notices := notices
      seeding := fun h => h.congr bodies engine
      applied := fun h => h.congr outstanding bodies
      regions := fun h => h.congr bodies ⟨by simp [units], base, line, engine⟩
      tracking := fun h => h.congr hlist bodies }

theorem Keeps.of_same (same : SameRecords s t) : Keeps s t := by
  obtain ⟨rings, queues, device, ports, outstanding, engine, units, base, line⟩ := same
  have hring (r : RingId) : t.ring r = s.ring r := State.ring_congr rings r
  have hbody : SameBodies s t := fun r => by rw [hring]
  exact .of_notices (fun h => h.congr ⟨queues, device, fun r => by rw [hring], hbody⟩)
    ⟨hbody, ports, outstanding, engine, units, base, line⟩

theorem Keeps.setJob (j : Option NoticeJob) : Keeps s (s.setJob j) := .of_same (by simp)

theorem Keeps.setHold (p : Port) (h : Option HoldSlot) : Keeps s (s.setHold p h) := .of_same (by simp)

theorem Keeps.setOutstanding {l : List OutEntry} (h : AppliedAmong l s.outstanding) :
    Keeps s (s.setOutstanding l) where
  notices h := h.congr (by simp)
  seeding h := h.congr (by simp) (by simp)
  applied h' := h'.mono h fun _ => id
  regions h := h.congr (by simp) (by simp)
  tracking h := h.congr (by simp) (by simp)

/-- The port interfaces change alone. -/
theorem KeepsTables.setPorts (ports : PerPort PortIface) : KeepsTables s { s with ports := ports } where
  notices h := h
  seeding h := h
  applied h := h
  regions h := h

theorem Keeps.setPorts {ports : PerPort PortIface} (h : ∀ p, ListPasses (s.inFlight p) (ports.get p).inFlight) :
    Keeps s { s with ports := ports } :=
  { KeepsTables.setPorts ports with tracking := fun h' => h'.mono h fun _ => rfl }

theorem Keeps.setInFlight {p : Port} {l : List InFlight} (h : ListPasses (s.inFlight p) l) :
    Keeps s (s.setInFlight p l) := by
  refine .setPorts fun q => ?_
  by_cases hq : q = p
  · subst hq; simpa using h
  · exact .of_eq (State.inFlight_setInFlight_ne s l hq)

theorem Keeps.changeEntry {p : Port} {test : InFlight → Bool} {f : InFlight → InFlight}
    (h : ∀ e, test e = true → EntryPasses e (f e)) : Keeps s (changeEntry p test f s) :=
  .setInFlight (.updateFirst _ h)

/-- The engine's state changes while no ring is SEEDING on its wait, and in RESET stays INIT. -/
theorem Keeps.setEngine {e : Engine}
    (seeding : ∀ r, (s.ring r).isSeeding = true → s.engine.state = .waiting (.seeding r) → e.state = s.engine.state)
    (init : s.resetLine = true → s.engine.state = .init → e.state = .init) : Keeps s (s.setEngine e) where
  notices h := h.congr (by simp)
  seeding h := h.mono (fun _ => id) seeding
  applied h := h.congr (by simp) (by simp)
  regions h := h.mono (fun r b hb => ⟨b, hb, rfl, id⟩) (fun _ => .inr rfl) rfl rfl init
  tracking h := h.congr (by simp) (by simp)

theorem Keeps.setEngine_same (e : Engine) (h : e.state = s.engine.state) : Keeps s (s.setEngine e) :=
  .of_same (by simpa using h)

/-- A unit goes OFF or keeps its regions. -/
theorem Keeps.setUnit {p : Port} {u : Option NoticeUnit}
    (h : u = none ∨ u.map NoticeUnit.regions = (s.units.get p).map NoticeUnit.regions) :
    Keeps s (s.setUnit p u) where
  notices h := h.congr (by simp)
  seeding h := h.congr (by simp) (by simp)
  applied h := h.congr (by simp) (by simp)
  regions h' := h'.mono (fun r b hb => ⟨b, hb, rfl, id⟩) (fun q => by
    by_cases hq : q = p
    · subst hq; simpa using h
    · simp [PerPort.get_set_ne _ _ hq]) rfl rfl fun _ => id
  tracking h := h.congr (by simp) (by simp)

/-- The outstanding writes of ring `r` carry no applied mark. -/
def NoneApplied (s : State) (r : RingId) : Prop := ∀ o ∈ s.outstanding, some r ∉ o.applied?

/-- A ring's body is replaced by one with the same regions, under what each invariant asks of it. -/
theorem KeepsTables.setBody {r : RingId} {b b' : RingBody} (hb : (s.ring r).body = some b)
    (notify : b'.desc.notify = b.desc.notify ∨ (s.ring r).pend.get b.desc.notify = 0)
    (seeding : ∀ rec, b'.phase = .seeding rec →
      (∃ rec', b.phase = .seeding rec') ∨ s.engine.state = .waiting (.seeding r))
    (applied : ∀ head tail, b.phase = .tracking head tail →
      (∃ head' tail', b'.phase = .tracking head' tail') ∨ NoneApplied s r)
    (regions : b'.desc.regions = b.desc.regions) (fields : b.desc.FieldsOk → b'.desc.FieldsOk) :
    KeepsTables s (s.setBody r b') where
  notices h := h.setBody hb notify
  seeding h := fun r' hs => by
    by_cases hr : r' = r
    · subst hr
      have hb' : ((s.setBody r' b').ring r').body = some b' := by simp
      obtain ⟨rec, hrec⟩ := (RingEntry.isSeeding_iff hb').1 hs
      rcases seeding rec hrec with hrec' | hw
      · exact h r' ((RingEntry.isSeeding_iff hb).2 hrec')
      · exact hw
    · exact h r' (State.ring_setBody_ne s b' hr ▸ hs)
  applied h := fun o ho ring hring => by
    obtain ⟨r', hr', ht⟩ := h o ho ring hring
    refine ⟨r', hr', ?_⟩
    by_cases hr : r' = r
    · subst hr
      obtain ⟨head, tail, hph⟩ := (RingEntry.isTracking_iff hb).1 ht
      rcases applied head tail hph with hph' | hn
      · exact (RingEntry.isTracking_iff (by simp)).2 hph'
      · exact absurd (Option.mem_def.1 hr' ▸ hring) (hn o ho)
    · rwa [State.ring_setBody_ne _ _ hr]
  regions h := by
    refine h.mono_bodies (fun r' b₁ hb₁ => ?_) (by simp)
    by_cases hr : r' = r
    · subst hr
      obtain rfl : b' = b₁ := by simpa using hb₁
      exact ⟨b, hb, regions, fields⟩
    · exact ⟨b₁, State.ring_setBody_ne s b' hr ▸ hb₁, rfl, id⟩

theorem Keeps.setBody {r : RingId} {b b' : RingBody} (hb : (s.ring r).body = some b)
    (notify : b'.desc.notify = b.desc.notify ∨ (s.ring r).pend.get b.desc.notify = 0)
    (seeding : ∀ rec, b'.phase = .seeding rec →
      (∃ rec', b.phase = .seeding rec') ∨ s.engine.state = .waiting (.seeding r))
    (applied : ∀ head tail, b.phase = .tracking head tail →
      (∃ head' tail', b'.phase = .tracking head' tail') ∨ NoneApplied s r)
    (regions : b'.desc.regions = b.desc.regions) (fields : b.desc.FieldsOk → b'.desc.FieldsOk)
    (fits : BodyFits b → BodyFits b')
    (entries : ∀ p e, eligibleEntry s p = some e → e.NamesClass → EntryFits b p r e → EntryFits b' p r e) :
    Keeps s (s.setBody r b') :=
  { KeepsTables.setBody hb notify seeding applied regions fields with
    tracking := fun h => by
      obtain ⟨hw, hc, hbody⟩ := trackingSound_iff.1 h
      obtain ⟨hf, he⟩ := hbody r b hb
      exact h.setBody (fits hf) fun p e hm hel =>
        entries p e (eligibleEntry_of_mem (hw p) hm hel) (hc p e hm hel) (he p e hm hel) }

end Sys2Proof.Machine
end

section
/-! SUPPORT. The shared operations keep the invariants: pending sets and queues, violations, the lists of requests and
of outstanding entries, the phases of a ring, the engine, the notice units and the draining test. -/

namespace Sys2Proof.Machine

variable {s t u : State}

/-! ### Pending sets and queues (R93 to R100) -/

/-- Raising kinds for a source toward a port; a ring's go to its notify port alone (R93, R9). -/
theorem Keeps.raise {src : Source} {p : Port} {k : KindSet} (hk : k ≠ 0)
    (tells : ∀ r, src = .ring r → ∃ b ∈ (s.ring r).body, b.desc.notify = p) : Keeps s (raise src p k s) := by
  refine .of_notices (fun h => ?_) (by simp)
  have hmem : src ∈ s.queues.get p ↔ pendingSet s src p ≠ 0 := (noticesAgree_iff.1 h p).2.1 src
  have hnd : (s.queues.get p).Nodup := (noticesAgree_iff.1 h p).1
  have hne : pendingSet s src p ||| k ≠ 0 := fun h0 => hk (BitVec.or_eq_zero_iff.1 h0).2
  refine h.setSource src p _ (pendingSet_raise_self src p k s) (fun _ _ => pendingSet_raise_ne k s) (by simp)
    (fun q hq => ?_) ?_ ?_ (fun src' hs => ?_) (fun _ => tells) <;> rw [queues_raise] <;> split
  · exact PerPort.get_set_ne _ _ hq
  · rfl
  · rename_i h0
    have : src ∉ s.queues.get p := fun hm => hmem.1 hm h0
    simpa [List.nodup_append, hnd] using fun x hx (hxs : x = src) => this (hxs ▸ hx)
  · exact hnd
  · simpa using fun _ => hk
  · rename_i h0
    exact iff_of_true (hmem.2 h0) hne
  · simp [hs]
  · rfl

theorem RingKind.bit_ne_zero (k : RingKind) : k.bit ≠ 0 := by cases k <;> decide

theorem DeviceKind.bit_ne_zero (k : DeviceKind) : k.bit ≠ 0 := by cases k <;> decide

theorem Keeps.raiseRing (r : RingId) (k : RingKind) : Keeps s (raiseRing r k s) := by
  unfold Machine.raiseRing
  split
  · exact .refl s
  · rename_i b hb
    split
    · exact .refl s
    · exact .raise k.bit_ne_zero fun r' hr => ⟨b, by obtain rfl : r = r' := by simpa using hr
                                                     exact hb, rfl⟩

theorem Keeps.raiseDevice (p : Port) (k : DeviceKind) : Keeps s (raiseDevice p k s) :=
  .raise k.bit_ne_zero (by simp)

theorem get_queues_dequeue (src : Source) (p : Port) (s : State) :
    (dequeue src p s).queues.get p = (s.queues.get p).filter (· != src) := by
  simp [dequeue]

theorem get_queues_dequeue_ne (src : Source) {p q : Port} (s : State) (h : q ≠ p) :
    (dequeue src p s).queues.get q = s.queues.get q := PerPort.get_set_ne _ _ h

@[simp] theorem pendingSet_dequeue (src : Source) (p : Port) (s : State) (src' : Source) (q : Port) :
    pendingSet (dequeue src p s) src' q = pendingSet s src' q := by
  cases src' <;> simp [pendingSet]

@[simp] theorem pendingSet_setQueue (p : Port) (l : List Source) (s : State) (src' : Source) (q : Port) :
    pendingSet (s.setQueue p l) src' q = pendingSet s src' q := by
  cases src' <;> simp [pendingSet]

/-- A source's set is emptied and the source leaves the queue (R95, R97, R98). -/
theorem Keeps.emptySource (src : Source) (p : Port) : Keeps s (dequeue src p (setPendingSet src p 0 s)) := by
  refine .of_notices (fun h => h.setSource src p 0 (by simp) (fun src' q hne => ?_) (by simp)
    (fun q hq => ?_) ?_ ?_ (fun src' hs => ?_) (by simp)) (by simp)
  · simp [pendingSet_setPendingSet_ne _ _ hne]
  · simp [get_queues_dequeue_ne _ _ hq]
  · simpa [get_queues_dequeue] using (noticesAgree_iff.1 h p).1.filter _
  · simp [get_queues_dequeue]
  · simp [get_queues_dequeue, hs]

/-- A source that tells the port goes to the front of its queue with the kinds `k` pending (R96). -/
theorem Keeps.requeueSource {src : Source} {p : Port} {k : KindSet} (hk : k ≠ 0)
    (tells : ∀ r, src = .ring r → ∃ b ∈ (s.ring r).body, b.desc.notify = p) :
    Keeps s ((dequeue src p (setPendingSet src p k s)).setQueue p
      (src :: (dequeue src p (setPendingSet src p k s)).queues.get p)) := by
  refine .of_notices (fun h => h.setSource src p k (by simp) (fun src' q hne => ?_) (by simp) (fun q hq => ?_) ?_ ?_
    (fun src' hs => ?_) (fun _ => tells)) (by simp)
  · simp [pendingSet_setPendingSet_ne _ _ hne]
  · simp [PerPort.get_set_ne _ _ hq, get_queues_dequeue_ne _ _ hq]
  · simpa [get_queues_dequeue] using (noticesAgree_iff.1 h p).1.filter _
  · simpa using hk
  · simp [get_queues_dequeue, hs]

/-- A set that is not empty becomes another that is not empty (R97). -/
theorem Keeps.setPendingSet {src : Source} {p : Port} {k : KindSet} (hk : k ≠ 0) (old : pendingSet s src p ≠ 0) :
    Keeps s (setPendingSet src p k s) := by
  refine .of_notices (fun h => ?_) (by simp)
  obtain ⟨hn, hm, hb⟩ := noticesAgree_iff.1 h p
  refine h.setSource src p k (by simp) (fun src' q hne => pendingSet_setPendingSet_ne _ _ hne) (by simp)
    (by simp) (by simpa using hn) ?_ (by simp) (fun _ r hr => hb r (hr ▸ old))
  exact iff_of_true (by simpa using (hm src).2 old) hk

theorem Keeps.returnKinds (p : Port) (rec : RecordInFlight) : Keeps s (returnKinds p rec s) := by
  unfold Machine.returnKinds
  split
  · rename_i hsrc
    simp only [hsrc]
    split
    · exact .refl s
    · rename_i hne
      exact .requeueSource hne (by simp)
  · rename_i r hsrc
    split
    · exact .refl s
    · split
      · exact .refl s
      · rename_i b hb
        simp only [hsrc]
        split
        · exact .refl s
        · rename_i hne
          exact .requeueSource hne fun r' hr => ⟨b, by obtain rfl : r = r' := by simpa using hr
                                                       exact hb, rfl⟩

theorem Keeps.clearPortNotices (p : Port) : Keeps s (clearPortNotices p s) := by
  refine .of_notices (fun h => bothPorts_iff.2 fun q => ?_) (by simp [Machine.clearPortNotices])
  by_cases hq : q = p
  · subst hq
    simp [Machine.clearPortNotices]
  · simpa [Machine.clearPortNotices, PerPort.get_set_ne _ _ hq] using bothPorts_iff.1 h q

/-! ### Violations (R22, R89) -/

@[simp] theorem countViolation_ring_pend (r : RingId) (k : ViolationKind) (p : Port) (addr : Word) (s : State)
    (i : RingId) : ((countViolation r k p addr s).ring i).pend = (s.ring i).pend := by
  rw [countViolation_eq]
  by_cases h : i = r
  · subst h; simp [countedEntry]
  · rw [State.ring_setRing_ne _ _ h]

theorem Keeps.countViolation (r : RingId) (k : ViolationKind) (p : Port) (addr : Word) :
    Keeps s (countViolation r k p addr s) := .of_notices (fun h => h.congr (by simp)) (by simp)

theorem Keeps.chargeViolation (r : RingId) (k : ViolationKind) (p : Port) (addr : Word) :
    Keeps s (chargeViolation r k p addr s) := (Keeps.countViolation r k p addr).trans (.raiseRing r .violation)

/-! ### Lists of requests (R39, R58, R74, R77, R114) -/

theorem Keeps.releaseHeld (p : Port) : Keeps s (releaseHeld p s) :=
  (Keeps.setHold p none).trans (.changeEntry fun _ h => .released h)

theorem Keeps.refuseHeld (p : Port) : Keeps s (refuseHeld p s) :=
  (Keeps.setHold p none).trans (.changeEntry fun _ _ => .leaves rfl)

theorem Keeps.releaseHeldOn (r : RingId) : Keeps s (releaseHeldOn r s) := by
  unfold Machine.releaseHeldOn
  split
  · exact .refl s
  · exact .releaseHeld _

theorem Keeps.retestHeld (r : RingId) : Keeps s (retestHeld r s) := by
  unfold Machine.retestHeld
  split
  · split
    · split
      · exact .releaseHeld _
      · exact .refl s
    · exact .refl s
  · exact .refl s

theorem EntryPasses.unstall (e : InFlight) : EntryPasses e (unstall e) := by
  unfold Machine.unstall
  split
  · exact .leaves rfl
  · exact .stays e

theorem Keeps.unstallAll : Keeps s (unstallAll s) :=
  (Keeps.setInFlight (.map _ EntryPasses.unstall)).trans (.setInFlight (.map _ EntryPasses.unstall))

theorem EntryPasses.dropNoticeMark (e : InFlight) : EntryPasses e e.dropNoticeMark := by
  unfold InFlight.dropNoticeMark
  split
  · rename_i h
    exact .unmarked (Bool.and_eq_true_iff.1 h).1
  · exact .stays e

theorem Keeps.dropNoticeMarks (p : Port) : Keeps s (dropNoticeMarks p s) :=
  .setInFlight (.map _ EntryPasses.dropNoticeMark)

/-! ### Outstanding entries (R36, R119, R177) -/

theorem OutEntry.applied?_of_origin {o o' : OutEntry} (h : o'.origin = o.origin) : o'.applied? = o.applied? := by
  simp only [OutEntry.applied?, h]

theorem OutEntry.applied?_dropApplied (r : RingId) (o : OutEntry) :
    (o.dropApplied r).applied? = o.applied? ∨ (o.dropApplied r).applied? = none := by
  unfold OutEntry.dropApplied
  split
  · split
    · exact .inr rfl
    · exact .inl rfl
  · exact .inl rfl

theorem OutEntry.dropApplied_applied? (r : RingId) (o : OutEntry) : some r ∉ (o.dropApplied r).applied? := by
  rcases o with ⟨⟨p, n, ring, ap⟩ | k | ⟨u, w⟩, d⟩ <;> simp [OutEntry.dropApplied, OutEntry.applied?]
  cases ap <;> simp
  by_cases h : ring = some r <;> simp [h]

theorem Keeps.dropAppliedMarks (r : RingId) : Keeps s (dropAppliedMarks r s) :=
  .setOutstanding (.map _ (OutEntry.applied?_dropApplied r))

theorem noneApplied_dropAppliedMarks (r : RingId) : NoneApplied (dropAppliedMarks r s) r := by
  intro o ho
  obtain ⟨o', -, rfl⟩ := List.mem_map.1 ho
  exact o'.dropApplied_applied? r

/-! ### Phases of a ring -/

/-- A phase that is neither SEEDING, when it was not, nor out of TRACKING with applied marks left. -/
theorem Keeps.withPhase {r : RingId} {b : RingBody} {ph : RingPhase} (hb : (s.ring r).body = some b)
    (seeding : ∀ rec, ph = .seeding rec →
      (∃ rec', b.phase = .seeding rec') ∨ s.engine.state = .waiting (.seeding r))
    (applied : ∀ head tail, b.phase = .tracking head tail →
      (∃ head' tail', ph = .tracking head' tail') ∨ NoneApplied s r)
    (fill : ∀ head tail, ph = .tracking head tail → distance head tail ≤ b.desc.slotCount)
    (entries : ∀ p e, eligibleEntry s p = some e → e.NamesClass → EntryFits b p r e →
      EntryFits (b.withPhase ph) p r e) : Keeps s (s.setBody r (b.withPhase ph)) :=
  .setBody hb (.inl rfl) seeding applied rfl id (fun h => ⟨h.1, fill⟩) entries

theorem Keeps.faultEntry (r : RingId) (cause : FaultCause) : Keeps s (faultEntry r cause s) := by
  unfold Machine.faultEntry
  split
  · rename_i b hb
    split
    · rename_i head tail hph
      have hset : Keeps (Machine.dropAppliedMarks r s) ((Machine.dropAppliedMarks r s).setBody r
          (b.withPhase (.faulted { cause := cause, time := s.time } none none))) := by
        refine .withPhase (by simpa using hb) (by simp) (fun _ _ _ => .inr (noneApplied_dropAppliedMarks r)) (by simp)
          fun p e _ _ hfit => ?_
        simp only [EntryFits, hph, RingBody.withPhase, and_true] at hfit ⊢
        exact ⟨fun h => (hfit.1 h).1, fun h => (hfit.2 h).1⟩
      exact (Keeps.dropAppliedMarks r).trans (hset.trans ((Keeps.releaseHeldOn r).trans (.raiseRing r .fault)))
    · exact .refl s
  · exact .refl s

/-! ### The engine (R124, R129, R130, R133) -/

theorem Keeps.presentEngine (q : EngineRequest) : Keeps s (presentEngine q s) := .setEngine_same _ rfl

/-- The engine's state is not INIT, and no ring is SEEDING on its wait: the engine may go on to another state. -/
def EngineFree (s : State) : Prop :=
  s.engine.state ≠ .init ∧ ∀ r, (s.ring r).isSeeding = true → s.engine.state ≠ .waiting (.seeding r)

theorem EngineFree.of_state (init : s.engine.state ≠ .init) (wait : ∀ r, s.engine.state ≠ .waiting (.seeding r)) :
    EngineFree s := ⟨init, fun r _ => wait r⟩

theorem Keeps.setEngine_free {e : Engine} (h : EngineFree s) : Keeps s (s.setEngine e) :=
  .setEngine (fun r hs hw => absurd hw (h.2 r hs)) fun _ hi => absurd hi h.1

theorem Keeps.report (h : EngineFree s) (status : CommandStatus) (words : Params) :
    Keeps s (report status words s) := by
  unfold Machine.report
  split
  · exact .refl s
  · exact (Keeps.setEngine_free h).trans (.presentEngine _)

theorem Keeps.settleWait {w : EngineWait} (h : ∀ r, w = .seeding r → (s.ring r).isSeeding = false)
    (status : CommandStatus) (words : Params) : Keeps s (settleWait w status words s) := by
  unfold Machine.settleWait
  split
  · rename_i hw
    refine .report ⟨by simp [hw], fun r hs hw' => ?_⟩ status words
    have := h r (by simpa [hw] using hw')
    simp [this] at hs
  · exact .refl s

theorem Keeps.fetchOrIdle (h : EngineFree s) : Keeps s (fetchOrIdle s) := by
  unfold Machine.fetchOrIdle
  split
  · exact .setEngine_free h
  · exact (Keeps.setEngine_free h).trans (.presentEngine _)

theorem Keeps.haltEngine (h : EngineFree s) (info : HaltInfo) : Keeps s (haltEngine info s) := by
  refine (Keeps.setEngine_free h).trans ((Keeps.setOutstanding (.map _ fun o => .inl ?_)).trans
    ((Keeps.presentEngine _).trans (.raiseDevice _ _)))
  split <;> rfl

/-! ### Notice units (R107, R108, R119) -/

theorem Keeps.unitOff (p : Port) : Keeps s (unitOff p s) :=
  (Keeps.setUnit (.inl rfl)).trans (.dropNoticeMarks p)

theorem Keeps.abandonJob (p : Port) : Keeps s (abandonJob p s) := by
  have hout : Keeps s (s.setOutstanding (s.outstanding.map fun o =>
      match o.origin with
      | .notice u _ => if u = p then { o with discarded := true } else o
      | _ => o)) := by
    refine .setOutstanding (.map _ fun o => .inl (OutEntry.applied?_of_origin ?_))
    split
    · split <;> rfl
    · rfl
  unfold Machine.abandonJob
  split
  · split
    · exact hout.trans (.setJob none)
    · exact hout
  · exact hout

theorem regions_mapRecord (f : RecordInFlight → RecordInFlight) (u : NoticeUnit) :
    (u.mapRecord f).regions = u.regions := by
  unfold NoticeUnit.mapRecord
  split <;> rfl

theorem Keeps.mapRecords (f : RecordInFlight → RecordInFlight) : Keeps s (mapRecords f s) where
  notices h := h.congr (by simp)
  seeding h := h.congr (by simp) (by simp)
  applied h := h.congr (by simp) (by simp)
  regions h := by
    refine h.congr (by simp) ⟨fun p => ?_, by simp, by simp, by simp⟩
    cases p <;> simp [Machine.mapRecords, PerPort.get, Function.comp_def, regions_mapRecord]
  tracking h := h.congr (by simp) (by simp)

/-! ### Draining (R40) -/

/-- What the draining test can do (R40, R41). -/
theorem drainTest_cases (r : RingId) (s : State) : drainTest r s = s ∨ ∃ b rec, (s.ring r).body = some b ∧
    b.phase = .seeding rec ∧ drainBlocked s r b.desc = false ∧
      drainTest r s = presentEngine (seedRead r b.desc .head)
        (s.setBody r (b.withPhase (.seeding { rec with step := .reading }))) := by
  unfold drainTest
  split
  · rename_i b hb
    split
    · rename_i rec hph
      split
      · rename_i hd
        exact .inr ⟨b, rec, hb, hph, hd.2, rfl⟩
      · exact .inl rfl
    · exact .inl rfl
  · exact .inl rfl

/-- A marked index write of the ring that is ELIGIBLE blocks the draining. -/
theorem unmarked_of_drained {r : RingId} {d : Descriptor} {p : Port} {e : InFlight} (h : drainBlocked s r d = false)
    (he : eligibleEntry s p = some e) (hc : e.NamesClass) : e.marks r .head = false ∧ e.marks r .tail = false := by
  have ht : touchesRing r d e = false := by
    cases p <;> simp_all [drainBlocked]
  have hcls : e.cls.bind AccessClass.ring? ≠ some r := by
    intro hh
    simp [touchesRing, hh] at ht
  refine ⟨Bool.not_eq_true _ ▸ fun hm => hcls ?_, Bool.not_eq_true _ ▸ fun hm => hcls ?_⟩
  · rw [(hc r).1 hm]; rfl
  · rw [(hc r).2 hm]; rfl

theorem Keeps.drainTest (r : RingId) : Keeps s (drainTest r s) := by
  rcases drainTest_cases r s with h | ⟨b, rec, hb, hph, hd, h⟩ <;> rw [h]
  · exact .refl s
  · refine (Keeps.withPhase hb (fun _ _ => .inl ⟨rec, hph⟩) (by simp [hph]) (by simp) fun p e he hc hfit => ?_).trans
      (.presentEngine _)
    simp only [EntryFits, hph, RingBody.withPhase] at hfit ⊢
    exact ⟨fun _ => unmarked_of_drained hd he hc, hfit.2⟩

theorem Keeps.drainTestSeeding : Keeps s (drainTestSeeding s) := by
  unfold Machine.drainTestSeeding
  split
  · exact .drainTest _
  · exact .refl s

end Sys2Proof.Machine
end

section
/-! SUPPORT. The engine's commands (08) keep the invariants. -/

namespace Sys2Proof.Machine

variable {s t : State}

/-! ### Executing (R129, R137) -/

theorem EngineFree.of_executing (h : s.engine.state = .executing) : EngineFree s :=
  .of_state (by simp [h]) (by simp [h])

/-- A command's effect, and then its report. -/
theorem Keeps.finish (h : Keeps s t) (engine : t.engine.state = .executing) (status : CommandStatus) :
    Keeps s (finish status t) :=
  h.trans (.report (.of_executing engine) status _)

theorem Keeps.performing {k : CommandCode} {act : SlotWords → State → State}
    (h : ∀ w, s.engine.state = .executing → Keeps s (act w s)) : Keeps s (performing k act s) := by
  unfold Machine.performing executing
  split
  · rename_i c hc
    split at hc
    · rename_i he
      split
      · exact h _ he
      · exact .refl s
    · cases hc
  · exact .refl s

theorem Keeps.ringCommand {allowed : RingEntry → Bool} {act : RingId → State → State} {w : SlotWords}
    (he : s.engine.state = .executing) (h : ∀ r, allowed (s.ring r) = true → Keeps s (act r s)) :
    Keeps s (ringCommand allowed act w s) := by
  unfold Machine.ringCommand
  split
  · exact (Keeps.refl s).finish he _
  · split
    · exact h _ ‹_›
    · exact (Keeps.refl s).finish he _

theorem Keeps.onBody {act : RingBody → State → State} {r : RingId} (he : s.engine.state = .executing)
    (h : ∀ b, (s.ring r).body = some b → Keeps s (act b s)) : Keeps s (onBody act r s) := by
  unfold Machine.onBody
  split
  · exact h _ ‹_›
  · exact (Keeps.refl s).finish he _

theorem Keeps.unitCommand {allowed : Option NoticeUnit → Bool} {act : Port → State → State} {w : SlotWords}
    (he : s.engine.state = .executing) (h : ∀ p, allowed (s.units.get p) = true → Keeps s (act p s)) :
    Keeps s (unitCommand allowed act w s) := by
  unfold Machine.unitCommand
  split
  · exact (Keeps.refl s).finish he _
  · split
    · exact h _ ‹_›
    · exact (Keeps.refl s).finish he _

/-! ### Defining and releasing (R140 to R143) -/

@[simp] theorem get_queues_forgetNotices (r : RingId) (s : State) (p : Port) :
    (forgetNotices r s).queues.get p = (s.queues.get p).filter (· != .ring r) := by
  cases p <;> rfl

theorem regions_forgetNotices (r : RingId) (s : State) (p : Port) :
    ((forgetNotices r s).units.get p).map NoticeUnit.regions = (s.units.get p).map NoticeUnit.regions := by
  cases p <;> simp [forgetNotices, mapRecords, dequeue, PerPort.get, Function.comp_def, regions_mapRecord]

/-- A ring that is not TRACKING gives its entry up for one that is FREE or DEFINED, with no kind pending (R16, R17). -/
theorem Keeps.forgetSetRing {r : RingId} {e : RingEntry} (old : (s.ring r).isTracking = false) (pend : e.pend = ⟨0, 0⟩)
    (body : ∀ b ∈ e.body, b.phase = .defined ∧ b.desc.slotCount ≤ 32768)
    (regions : RegionsSound s → RegionsSound ((forgetNotices r s).setRing r e)) :
    Keeps s ((forgetNotices r s).setRing r e) where
  notices h := noticesAgree_iff.2 fun p => by
    obtain ⟨hn, hm, hb⟩ := noticesAgree_iff.1 h p
    have hset (src : Source) : pendingSet ((forgetNotices r s).setRing r e) src p =
        if src = .ring r then 0 else pendingSet s src p := by
      rcases src with r' | _
      · by_cases hr : r' = r
        · subst hr; cases p <;> simp [pendingSet, pend, PerPort.get]
        · simp [pendingSet, State.ring_setRing_ne _ _ hr, hr]
      · simp [pendingSet]
    refine ⟨by simpa using hn.filter _, fun src => ?_, fun r' hne => ?_⟩
    · by_cases hs : src = .ring r <;> simp [hset, hs, hm]
    · have hr : r' ≠ r := by rintro rfl; simp [hset] at hne
      rw [State.ring_setRing_ne _ _ hr, forgetNotices_ring]
      exact hb r' (by simpa [hset, hr] using hne)
  seeding h := by
    refine h.mono (fun r' hs => ?_) fun _ _ _ => by simp
    by_cases hr : r' = r
    · subst hr
      rw [State.ring_setRing_self] at hs
      rcases hb : e.body with _ | b
      · simp [RingEntry.isSeeding_of_free hb] at hs
      · obtain ⟨rec, hrec⟩ := (RingEntry.isSeeding_iff hb).1 hs
        simp [(body b hb).1] at hrec
    · rwa [State.ring_setRing_ne _ _ hr, forgetNotices_ring] at hs
  applied h := by
    refine h.mono (.of_eq (by simp)) fun r' ht => ?_
    have hr : r' ≠ r := by rintro rfl; simp [old] at ht
    rwa [State.ring_setRing_ne _ _ hr, forgetNotices_ring]
  regions := regions
  tracking h := by
    obtain ⟨hw, hc, hb⟩ := trackingSound_iff.1 h
    refine trackingSound_iff.2 ⟨by simpa using hw, by simpa using hc, fun r' b hbody => ?_⟩
    by_cases hr : r' = r
    · subst hr
      rw [State.ring_setRing_self] at hbody
      obtain ⟨hph, hcount⟩ := body b hbody
      exact ⟨⟨hcount, by simp [hph]⟩, fun p e' _ _ => by simp [EntryFits, hph]⟩
    · rw [State.ring_setRing_ne _ _ hr, forgetNotices_ring] at hbody
      simpa using hb r' b hbody

theorem isTracking_of_allowedDefine {e : RingEntry} (h : allowedDefine e = true) : e.isTracking = false := by
  unfold allowedDefine at h
  unfold RingEntry.isTracking
  split at h <;> simp_all

theorem isTracking_of_allowedDefined {e : RingEntry} (h : allowedDefined e = true) : e.isTracking = false := by
  unfold allowedDefined at h
  unfold RingEntry.isTracking
  split at h <;> simp_all

theorem Descriptor.FieldsOk.slotCount_le {d : Descriptor} (h : d.FieldsOk) : d.slotCount ≤ 32768 := by
  obtain ⟨_, c, -, ⟨-, hc⟩, -, hn, -⟩ := d.fieldsOk_iff.1 h
  rw [hn]
  exact (Nat.pow_le_pow_right (by decide) hc).trans (by decide)

/-- A region that another owner reserves is one that DEFINE_RING looks at (R141). -/
theorem reservedBy_subset_reservedByOthers {r : RingId} {o : Owner} (ho : o ≠ .ring r) :
    reservedBy s o ⊆ reservedByOthers s r := by
  intro g hg
  rcases o with r' | _ | p
  · have hr : r' ≠ r := fun hr => ho (hr ▸ rfl)
    exact List.mem_cons_of_mem _ (List.mem_append_left _ (List.mem_flatMap.2 ⟨r', by simp [hr], hg⟩))
  · simp_all [reservedBy, reservedByOthers]
  · cases p <;> simp_all [reservedBy, reservedByOthers]

theorem RegionsSound.startAfresh (h : RegionsSound s) (he : s.engine.state = .executing) {r : RingId} {d : Descriptor}
    (hd : d.FieldsOk) (ha : LiesApart d.regions (reservedByOthers s r)) : RegionsSound (startAfresh r d s) := by
  obtain ⟨hf, hp, hr⟩ := h
  have hbody (r' : RingId) (hne : r' ≠ r) : ((Machine.startAfresh r d s).ring r').body = (s.ring r').body := by
    rw [Machine.startAfresh, State.ring_setRing_ne _ _ hne, forgetNotices_ring]
  have hself : ((Machine.startAfresh r d s).ring r).body = some ⟨d, none, none, .defined⟩ := by
    simp [Machine.startAfresh]
  have hown : reservedBy (Machine.startAfresh r d s) (.ring r) = d.regions := ringReserved_of_body hself
  refine ⟨fun r' b hb => ?_, ?_, fun hl => ?_⟩
  · by_cases hne : r' = r
    · subst hne
      obtain rfl := Option.mem_unique hself hb
      exact hd
    · exact hf r' b (hbody r' hne ▸ hb)
  · refine reservations_apart_replace hp (.ring r) (fun o ho => ?_) (hown ▸ ha.1) fun o ho g hg h hh =>
      ha.2 g (hown ▸ hg) h (reservedBy_subset_reservedByOthers ho hh)
    rcases o with r' | _ | p
    · simp only [reservedBy, ringReserved, hbody r' fun hr => ho (hr ▸ rfl)]
    · simp [reservedBy, windowRegion, windowBase, Machine.startAfresh]
    · simp only [reservedBy, unitReserved_eq, Machine.startAfresh, State.setRing_units, regions_forgetNotices]
  · have := (hr (by simpa [Machine.startAfresh] using hl)).2.2.2
    simp [he] at this

theorem Keeps.execDefineRing (h : execDefineRing s = .next t) : Keeps s t := by
  obtain rfl := Host.Outcome.next.inj h
  refine .performing fun w he => .ringCommand he fun r hr => ?_
  split
  · exact (Keeps.refl s).finish he _
  · rename_i d hd
    obtain ⟨hd, -⟩ := (parseDescriptor_eq_some _ d).1 hd
    split
    · rename_i ha
      refine Keeps.finish (.forgetSetRing (isTracking_of_allowedDefine hr) rfl ?_ fun h => ?_)
        (by simpa [startAfresh] using he) _
      · simpa only [Option.mem_def, Option.some.injEq, forall_eq', true_and] using hd.slotCount_le
      · exact h.startAfresh he hd ((descriptorApart_iff s r d).1 ha)
    · exact (Keeps.refl s).finish he _

theorem Keeps.execReleaseRing (h : execReleaseRing s = .next t) : Keeps s t := by
  obtain rfl := Host.Outcome.next.inj h
  refine .performing fun w he => .ringCommand he fun r hr => ?_
  refine Keeps.finish (.forgetSetRing (isTracking_of_allowedDefined hr) rfl (by simp [RingEntry.free]) fun h => ?_)
    (by simpa using he) _
  refine h.mono_bodies (fun r' b hb => ?_) ⟨regions_forgetNotices r s, by simp, by simp, by simp⟩
  by_cases hne : r' = r
  · subst hne
    simp [RingEntry.free] at hb
  · rw [State.ring_setRing_ne _ _ hne, forgetNotices_ring] at hb
    exact ⟨b, hb, rfl, id⟩

/-! ### Arming, disarming and clearing (R144 to R147) -/

/-- A seeding begins on a DEFINED ring for ARM, or on a FAULTED one for CLEAR_FAULT. -/
theorem Keeps.beginSeeding {r : RingId} {b : RingBody} {purpose : SeedPurpose} (he : s.engine.state = .executing)
    (hb : (s.ring r).body = some b)
    (from' : b.phase = .defined ∧ purpose = .arm ∨ ∃ f oh ot, b.phase = .faulted f oh ot ∧ purpose = .clearFault f) :
    Keeps s (beginSeeding r b purpose s) := by
  have hwait : Keeps s (s.setEngine { s.engine with state := .waiting (.seeding r) }) :=
    .setEngine_free (.of_executing he)
  refine (hwait.trans
    (Keeps.withPhase (by simpa using hb) (fun _ _ => .inr rfl) ?_ (by simp) fun p e _ _ hfit => ?_)).trans
    (.drainTest r)
  · rcases from' with ⟨hph, -⟩ | ⟨f, oh, ot, hph, -⟩ <;> simp [hph]
  · rcases from' with ⟨hph, rfl⟩ | ⟨f, oh, ot, hph, rfl⟩ <;>
      simp only [EntryFits, hph, RingBody.withPhase, reduceCtorEq, false_imp_iff, true_and, implies_true] at hfit ⊢
    exact fun _ _ => ⟨fun h => (hfit.1 h).1, fun h => (hfit.2 h).1⟩

theorem allowedDefined_phase {e : RingEntry} {b : RingBody} (hb : e.body = some b) (h : allowedDefined e = true) :
    b.phase = .defined := by
  unfold allowedDefined at h
  split at h
  · simp_all [RingEntry.phase?]
  · cases h

theorem Keeps.execArmRing (h : execArmRing s = .next t) : Keeps s t := by
  obtain rfl := Host.Outcome.next.inj h
  exact .performing fun w he => .ringCommand he fun r hr => .onBody he fun b hb =>
    .beginSeeding he hb (.inl ⟨allowedDefined_phase hb hr, rfl⟩)

theorem Keeps.execClearFault (h : execClearFault s = .next t) : Keeps s t := by
  obtain rfl := Host.Outcome.next.inj h
  refine .performing fun w he => .ringCommand he fun r hr => .onBody he fun b hb => ?_
  split
  · exact .beginSeeding he hb (.inr ⟨_, _, _, ‹_›, rfl⟩)
  · exact .refl s

theorem Keeps.execDisarmRing (h : execDisarmRing s = .next t) : Keeps s t := by
  obtain rfl := Host.Outcome.next.inj h
  refine .performing fun w he => .ringCommand he fun r hr => .onBody he fun b hb => ?_
  have hset : Keeps (Machine.dropAppliedMarks r s) ((Machine.dropAppliedMarks r s).setBody r (b.withPhase .defined)) :=
    .withPhase (by simpa using hb) (by simp) (fun _ _ _ => .inr (noneApplied_dropAppliedMarks r)) (by simp)
      fun _ _ _ _ _ => trivial
  exact ((Keeps.dropAppliedMarks r).trans (hset.trans (.releaseHeldOn r))).finish (by simpa using he) _

/-! ### Changing a ring (R148 to R152) -/

theorem Keeps.execSetMarks (h : execSetMarks s = .next t) : Keeps s t := by
  obtain rfl := Host.Outcome.next.inj h
  refine .performing fun w he => .ringCommand he fun r hr => .onBody he fun b hb => ?_
  split
  · exact (Keeps.refl s).finish he _
  · rename_i high low _
    have hset : Keeps s (s.setBody r { b with highMark := high, lowMark := low }) :=
      .setBody hb (.inl rfl) (fun rec h => .inl ⟨rec, h⟩) (fun h t ht => .inl ⟨h, t, ht⟩) rfl id id fun _ _ _ _ => id
    exact hset.finish (by simpa using he) _

theorem parseGuard_limit {w : Params} {g : GuardMode} {l : Nat} {rcv : Recovery} (h : parseGuard w = some (g, l, rcv)) :
    1 ≤ l ∧ l ≤ 65535 := by
  simp only [parseGuard, Option.bind_eq_bind, Option.bind_eq_some_iff, limitOfField_eq_some, Option.pure_def,
    Option.some.injEq, Prod.mk.injEq] at h
  obtain ⟨_, -, _, ⟨hl, rfl⟩, _, -, -, rfl, -⟩ := h
  exact hl

theorem Keeps.settleHeldByGuard (r : RingId) (g : GuardMode) : Keeps s (settleHeldByGuard r g s) := by
  unfold Machine.settleHeldByGuard
  split
  · exact .refl s
  · split
    · exact .refl s
    · exact (Keeps.releaseHeld _).trans (.chargeViolation ..)
    · exact (Keeps.refuseHeld _).trans (.chargeViolation ..)

@[simp] theorem settleHeldByGuard_engine (r : RingId) (g : GuardMode) (s : State) :
    (settleHeldByGuard r g s).engine = s.engine := by
  unfold settleHeldByGuard
  split
  · rfl
  · split <;> simp

/-- The phase after SET_GUARD is the phase before it but for the observations (R65). -/
theorem phaseAfterGuard_cases (before after : Recovery) (ph : RingPhase) : phaseAfterGuard before after ph = ph ∨
    ∃ f oh ot, ph = .faulted f oh ot ∧ phaseAfterGuard before after ph = .faulted f none none := by
  cases ph with
  | faulted f oh ot =>
    unfold phaseAfterGuard
    dsimp only
    split
    · exact .inl rfl
    · exact .inr ⟨f, oh, ot, rfl, rfl⟩
  | _ => exact .inl rfl

/-- A ring's guard mode, hold limit and recovery change, and its observations may be dropped (R149, R65). -/
theorem Keeps.setGuard {r : RingId} {b : RingBody} (hb : (s.ring r).body = some b) {g : GuardMode} {l : Nat}
    {rcv : Recovery} (hl : 1 ≤ l ∧ l ≤ 65535) {ph : RingPhase}
    (hph : ph = b.phase ∨ ∃ f oh ot, b.phase = .faulted f oh ot ∧ ph = .faulted f none none) :
    Keeps s (s.setBody r
      { b with
        desc := { b.desc with guardMode := g, holdLimit := l, recovery := rcv }
        phase := ph }) := by
  refine .setBody hb (.inl rfl) ?_ ?_ rfl ?_ ?_ ?_
  · rcases hph with rfl | ⟨f, oh, ot, -, rfl⟩
    · exact fun rec h => .inl ⟨rec, h⟩
    · simp
  · rcases hph with rfl | ⟨f, oh, ot, hph, -⟩
    · exact fun h t ht => .inl ⟨h, t, ht⟩
    · simp [hph]
  · exact fun ⟨h1, h2, h3, h4, h5, h6, _⟩ => ⟨h1, h2, h3, h4, h5, h6, hl⟩
  · rcases hph with rfl | ⟨f, oh, ot, hph, rfl⟩
    · exact id
    · exact fun h => ⟨h.1, by simp⟩
  · intro p e _ _ hfit
    rcases hph with rfl | ⟨f, oh, ot, hph, rfl⟩
    · exact hfit
    · simp only [EntryFits, hph, and_true] at hfit ⊢
      exact ⟨fun h => (hfit.1 h).1, fun h => (hfit.2 h).1⟩

theorem Keeps.execSetGuard (h : execSetGuard s = .next t) : Keeps s t := by
  obtain rfl := Host.Outcome.next.inj h
  refine .performing fun w he => .ringCommand he fun r hr => .onBody he fun b hb => ?_
  split
  · exact (Keeps.refl s).finish he _
  · rename_i g l rcv hp
    exact Keeps.finish ((Keeps.setGuard hb (parseGuard_limit hp) (phaseAfterGuard_cases ..)).trans
      (.settleHeldByGuard r g)) (by simpa using he) _

@[simp] theorem State.setRing_setRing (s : State) (r : RingId) (e e' : RingEntry) :
    (s.setRing r e).setRing r e' = s.setRing r e' := by
  simp [State.setRing]

/-- Replacing a ring's pending set and replacing its body do not meet. -/
theorem setPendingSet_setBody (r : RingId) (p : Port) (k : KindSet) (b : RingBody) (s : State) :
    setPendingSet (.ring r) p k (s.setBody r b) = (setPendingSet (.ring r) p k s).setBody r b := by
  simp only [setPendingSet, State.setBody, State.ring_setRing_self, State.setRing_setRing]

/-- Notify port and mask change, where the notify port stays or no kind is pending for it (R151). -/
theorem Keeps.setNotify {r : RingId} {b : RingBody} (hb : (s.ring r).body = some b) {p : Port} {m : KindSet}
    (h : p = b.desc.notify ∨ (s.ring r).pend.get b.desc.notify = 0) :
    Keeps s (s.setBody r { b with desc := { b.desc with notify := p, mask := m } }) :=
  .setBody hb h (fun rec h => .inl ⟨rec, h⟩) (fun h t ht => .inl ⟨h, t, ht⟩) rfl id id fun _ _ _ _ => id

theorem Keeps.moveNotify {r : RingId} {b : RingBody} (hb : (s.ring r).body = some b) (p : Port) (m : KindSet) :
    Keeps s (moveNotify r b p m s) := by
  have hempty : Keeps s (dequeue (.ring r) b.desc.notify (Machine.setPendingSet (.ring r) b.desc.notify 0
      (s.setBody r { b with desc := { b.desc with notify := p, mask := m } }))) := by
    rw [setPendingSet_setBody]
    exact (Keeps.emptySource (.ring r) b.desc.notify).trans
      (.setNotify (by simpa using hb) (.inr (by simp [Machine.setPendingSet])))
  unfold Machine.moveNotify
  dsimp only
  split
  · exact hempty
  · rename_i hk
    split
    · rename_i hp
      subst hp
      rw [setPendingSet_setBody]
      have hpend : Keeps s (Machine.setPendingSet (.ring r) b.desc.notify _ s) :=
        .setPendingSet hk fun h0 => hk (by simp [h0])
      exact hpend.trans (.setNotify (by simpa using hb) (.inl rfl))
    · refine hempty.trans (.raise hk fun r' hr => ?_)
      obtain rfl : r = r' := by simpa using hr
      simp

@[simp] theorem moveNotify_engine (r : RingId) (b : RingBody) (p : Port) (m : KindSet) (s : State) :
    (moveNotify r b p m s).engine = s.engine := by
  unfold moveNotify
  dsimp only
  split
  · simp
  · split <;> simp

theorem Keeps.execSetNotify (h : execSetNotify s = .next t) : Keeps s t := by
  obtain rfl := Host.Outcome.next.inj h
  refine .performing fun w he => .ringCommand he fun r hr => .onBody he fun b hb => ?_
  split
  · exact (Keeps.refl s).finish he _
  · exact (Keeps.moveNotify hb _ _).finish (by simpa using he) _

theorem Keeps.execResetCounts (h : execResetCounts s = .next t) : Keeps s t := by
  obtain rfl := Host.Outcome.next.inj h
  refine .performing fun w he => .ringCommand he fun r hr => Keeps.finish ?_ (by simpa using he) _
  have hbody (r' : RingId) : ((s.setRing r { s.ring r with count := 0, last := none }).ring r').body =
      (s.ring r').body := by
    by_cases hr : r' = r
    · subst hr; simp
    · rw [State.ring_setRing_ne _ _ hr]
  refine .of_notices (fun h => h.congr ⟨by simp, by simp, fun r' => ?_, hbody⟩) ⟨hbody, by simp⟩
  by_cases hr : r' = r
  · subst hr; simp
  · rw [State.ring_setRing_ne _ _ hr]

/-! ### Reading a ring (R153 to R155) -/

theorem Keeps.execBadCommand (h : execBadCommand s = .next t) : Keeps s t := by
  obtain rfl := Host.Outcome.next.inj h
  unfold executing
  split
  · rename_i c hc
    split at hc
    · split
      · exact (Keeps.refl s).finish ‹_› _
      · exact .refl s
    · cases hc
  · exact .refl s

theorem Keeps.execQueryRing (h : execQueryRing s = .next t) : Keeps s t := by
  obtain rfl := Host.Outcome.next.inj h
  refine .performing fun w he => .ringCommand he fun r hr => ?_
  split
  · exact (Keeps.refl s).finish he _
  · exact .report (.of_executing he) ..
  · exact .report (.of_executing he) ..

/-! ### Notice unit commands (R156 to R158) -/

theorem RegionsSound.setUnit (h : RegionsSound s) (he : s.engine.state = .executing) {p : Port} {u : NoticeUnit}
    (ha : LiesApart u.regions (reservedByOtherUnits s p)) : RegionsSound (s.setUnit p (some u)) := by
  obtain ⟨hf, hp, hr⟩ := h
  have hown : reservedBy (s.setUnit p (some u)) (.unit p) = u.regions := by simp [reservedBy, unitReserved]
  refine ⟨hf, ?_, fun hl => ?_⟩
  · refine reservations_apart_replace hp (.unit p) (fun o ho => ?_) (hown ▸ ha.1) fun o ho g hg h hh =>
      ha.2 g (hown ▸ hg) h ?_
    · rcases o with r | _ | q
      · rfl
      · rfl
      · have hq : q ≠ p := fun hq => ho (hq ▸ rfl)
        simp [reservedBy, unitReserved, PerPort.get_set_ne _ _ hq]
    · rcases o with r | _ | q
      · exact List.mem_cons_of_mem _ (List.mem_append_left _ (List.mem_flatMap.2 ⟨r, by simp, hh⟩))
      · simp_all [reservedBy, reservedByOtherUnits]
      · obtain rfl : q = other p := eq_other_of_ne fun hq => ho (hq ▸ rfl)
        simp_all [reservedBy, reservedByOtherUnits]
  · have := (hr hl).2.2.2
    simp [he] at this

/-- A unit takes its geometry and the engine waits for its setup (R106, R129). -/
theorem Keeps.beginSetup (he : s.engine.state = .executing) {p : Port} {u : NoticeUnit}
    (ha : LiesApart u.regions (reservedByOtherUnits s p)) : Keeps s (beginSetup p u s) := by
  have hset : Keeps s (s.setUnit p (some u)) :=
    { notices := fun h => h.congr (by simp)
      seeding := fun h => h.congr (by simp) (by simp)
      applied := fun h => h.congr (by simp) (by simp)
      regions := fun h => h.setUnit he ha
      tracking := fun h => h.congr (by simp) (by simp) }
  exact (hset.trans (.dropNoticeMarks p)).trans (.setEngine_free (.of_executing (by simpa using he)))

theorem Keeps.execSetupNotice (h : execSetupNotice s = .next t) : Keeps s t := by
  obtain rfl := Host.Outcome.next.inj h
  refine .performing fun w he => .unitCommand he fun p hp => ?_
  split
  · exact (Keeps.refl s).finish he _
  · rename_i u _
    split
    · rename_i ha
      exact .beginSetup he ((unitApart_iff s p u).1 ha)
    · exact (Keeps.refl s).finish he _

theorem Keeps.closeUnit (he : s.engine.state = .executing) (p : Port) : Keeps s (closeUnit p s) := by
  unfold Machine.closeUnit
  split
  · exact .refl s
  · rename_i u hu
    split
    · exact (Keeps.unitOff p).trans (.report (.of_executing (by simpa using he)) ..)
    · exact (Keeps.unitOff p).trans (.report (.of_executing (by simpa using he)) ..)
    · exact (Keeps.setUnit (.inr (by simp [hu, NoticeUnit.regions, NoticeUnit.dataArea]))).trans
        (.setEngine_free (.of_executing (by simpa using he)))
    · exact .refl s

theorem Keeps.execNoticeOff (h : execNoticeOff s = .next t) : Keeps s t := by
  obtain rfl := Host.Outcome.next.inj h
  exact .performing fun w he => .unitCommand he fun p _ => .closeUnit he p

/-! ### Clearing the table (R159) -/

theorem Keeps.releaseAny (p : Port) : Keeps s (releaseAny p s) := by
  unfold Machine.releaseAny
  split
  · exact .releaseHeld p
  · exact .refl s

theorem OutEntry.applied?_dropAnyApplied (o : OutEntry) : o.dropAnyApplied.applied? = none := by
  rcases o with ⟨⟨p, n, ring, ap⟩ | k | ⟨u, w⟩, d⟩ <;> rfl

/-- Every entry is cleared once no applied mark is left, and rings leave both queues (R159). -/
theorem Keeps.freeRings (hout : ∀ o ∈ s.outstanding, o.applied? = none) :
    Keeps s (((s.setQueue .a (s.queues.a.filter fun x => !x.isRing)).setQueue .b
      (s.queues.b.filter fun x => !x.isRing)).mapRings fun _ => RingEntry.free) where
  notices h := bothPorts_iff.2 fun p => by
    obtain ⟨hn, -, hd, -⟩ := bothPorts_iff.1 h p
    cases p <;>
      simpa [RingEntry.free, PerPort.get, PerPort.set, Source.isRing] using ⟨hn.filter _, hd⟩
  seeding _ := .of_none (by simp [RingEntry.free, RingEntry.isSeeding, RingEntry.phase?])
  applied _ := fun o ho ring hr => by
    rw [hout o (by simpa using ho)] at hr
    cases hr
  regions h := h.mono_bodies (by simp [RingEntry.free]) (by simp)
  tracking h := by
    obtain ⟨hw, hc, -⟩ := trackingSound_iff.1 h
    exact trackingSound_iff.2 ⟨by simpa using hw, by simpa using hc, by simp [RingEntry.free]⟩

theorem Keeps.clearTable : Keeps s (clearTable s) := by
  refine ((Keeps.releaseAny .a).trans (.releaseAny .b)).trans
    ((Keeps.setOutstanding (.map _ fun o => .inr o.applied?_dropAnyApplied)).trans
      ((Keeps.mapRecords RecordInFlight.clearedForAll).trans (.freeRings ?_)))
  intro o ho
  obtain ⟨o', -, rfl⟩ := List.mem_map.1 ho
  exact o'.applied?_dropAnyApplied

@[simp] theorem releaseAny_engine (p : Port) (s : State) : (releaseAny p s).engine = s.engine := by
  unfold releaseAny
  split <;> simp

theorem Keeps.execResetTable (h : execResetTable s = .next t) : Keeps s t := by
  obtain rfl := Host.Outcome.next.inj h
  exact .performing fun w he => Keeps.clearTable.finish (by simpa [Machine.clearTable] using he) _

end Sys2Proof.Machine
end

section
/-! SUPPORT. Grants (R172, R173) keep the invariants. The fill of a TRACKING ring moves here alone, by the granted
entry, of which R5's invariant has said that it fits. -/

namespace Sys2Proof.Machine

variable {s t : State}

/-! ### Advances (R2, R27, R28) -/

/-- An advance of the head adds to the fill. -/
theorem distance_advance_head {v head tail : Index} (h : distance v head + distance head tail < 65536) :
    distance v tail = distance v head + distance head tail := by
  simp only [distance, BitVec.toNat_sub] at *
  omega

/-- An advance of the tail within the fill takes from it. -/
theorem distance_advance_tail {v head tail : Index} (h : distance v tail ≤ distance head tail) :
    distance head v + distance v tail = distance head tail := by
  simp only [distance, BitVec.toNat_sub] at *
  omega

theorem distance_self (v : Index) : distance v v = 0 := by simp [distance]

theorem writesIndex_of {x : Access} {w : WriteWord} (h : singleWrite x = some w) (f : Index → Bool) :
    writesIndex x f = f (lowHalf w.data) := by
  simp [writesIndex, writtenIndex, h]

theorem writesIndex_mono {x : Access} {f g : Index → Bool} (hfg : ∀ v, f v = true → g v = true)
    (h : writesIndex x f = true) : writesIndex x g = true := by
  unfold writesIndex at *
  obtain ⟨v, hv, hf⟩ := (Option.any_eq_true ..).1 h
  exact (Option.any_eq_true ..).2 ⟨v, hv, hfg v hf⟩

/-! ### The granted entry -/

/-- Port `p` has no ELIGIBLE entry any more, and the entry just granted met R5's invariant. -/
structure GrantedFits (s : State) (p : Port) (e : InFlight) : Prop where
  gone : ∀ e' ∈ s.inFlight p, e'.isEligible = false
  fits : ∀ r b, (s.ring r).body = some b → EntryFits b p r e

theorem inFlight_granted {p : Port} {e : InFlight} (h : OnceWaiting (s.inFlight p))
    (he : eligibleEntry s p = some e) :
    ∀ e' ∈ (changeEntry p InFlight.isEligible (fun e => { e with stage := .granted }) s).inFlight p,
      e'.isEligible = false := by
  obtain ⟨hel, before, after, hl, hb⟩ := List.find?_eq_some_iff_append.1 he
  rw [changeEntry_cut hl (by simpa using hb) hel, State.inFlight_setInFlight_self]
  have hafter : (after.filter InFlight.isWaiting).length = 0 := by
    have := h.1
    rw [hl, List.filter_append, List.filter_cons_of_pos (InFlight.isWaiting_of_isEligible hel)] at this
    simp only [List.length_append, List.length_cons] at this
    omega
  intro e' he'
  rcases List.mem_append.1 he' with hm | hm
  · simpa using hb e' hm
  · rcases List.mem_cons.1 hm with rfl | hm
    · rfl
    · have hnw := List.filter_eq_nil_iff.1 (List.eq_nil_of_length_eq_zero hafter) e' hm
      exact Bool.not_eq_true _ ▸ fun hel' => hnw (InFlight.isWaiting_of_isEligible hel')

theorem GrantedFits.of_eligibleEntry {p : Port} {e : InFlight} (h : TrackingSound s)
    (he : eligibleEntry s p = some e) :
    GrantedFits (changeEntry p InFlight.isEligible (fun e => { e with stage := .granted }) s) p e := by
  obtain ⟨hw, -, hb⟩ := trackingSound_iff.1 h
  exact ⟨inFlight_granted (hw p) he, fun r b hbody =>
    (hb r b hbody).2 p e (List.mem_of_find?_eq_some he) (List.find?_some he)⟩

/-! ### Index writes granted (R33, R34, R62, R63) -/

theorem Keeps.markCrossing (r : RingId) (b : RingBody) (before after : Nat) :
    Keeps s (markCrossing r b before after s) := by
  unfold Machine.markCrossing
  dsimp only
  split <;> split
  · exact (Keeps.raiseRing ..).trans (.raiseRing ..)
  · exact .raiseRing ..
  · exact .raiseRing ..
  · exact .refl s

@[simp] theorem markCrossing_ring_body (r : RingId) (b : RingBody) (before after : Nat) (s : State) (i : RingId) :
    ((markCrossing r b before after s).ring i).body = (s.ring i).body := by
  unfold markCrossing
  dsimp only
  split <;> split <;> simp

/-- An index moves: the ring is TRACKING before and after (R33). -/
theorem KeepsTables.setTracking {r : RingId} {b : RingBody} (hb : (s.ring r).body = some b) (head tail : Index) :
    KeepsTables s (s.setBody r (b.withPhase (.tracking head tail))) :=
  .setBody hb (.inl rfl) (by simp [RingBody.withPhase]) (fun _ _ _ => .inl ⟨head, tail, rfl⟩) rfl id

theorem KeepsTables.applyIndex (r : RingId) (w : IndexWord) (v : Index) : KeepsTables s (applyIndex r w v s) := by
  unfold Machine.applyIndex
  split
  · rename_i b hb
    split
    · cases w with
      | head => exact (KeepsTables.setTracking hb ..).trans (Keeps.markCrossing ..).toKeepsTables
      | tail =>
        exact (KeepsTables.setTracking hb ..).trans
          ((Keeps.markCrossing ..).trans (.retestHeld r)).toKeepsTables
    · exact (Keeps.refl s).toKeepsTables
  · exact (Keeps.refl s).toKeepsTables

/-- The head advances by a granted write that fits: the fill stays within N, and the other port's tail write fits
still. -/
theorem TrackingSound.advanceHead (h : TrackingSound s) {r : RingId} {b : RingBody} (hb : (s.ring r).body = some b)
    {head tail v : Index} (hph : b.phase = .tracking head tail)
    (gone : ∀ e ∈ s.inFlight b.desc.producer, e.isEligible = false)
    (hv : distance v head ≤ b.desc.slotCount - distance head tail) :
    TrackingSound (s.setBody r (b.withPhase (.tracking v tail))) := by
  obtain ⟨-, -, hbody⟩ := trackingSound_iff.1 h
  obtain ⟨⟨hcount, hfill⟩, hfit⟩ := hbody r b hb
  have hfill := hfill head tail hph
  have hsum : distance v tail = distance v head + distance head tail := distance_advance_head (by omega)
  refine h.setBody ⟨hcount, fun h' t' ht => ?_⟩ fun q e he hel => ?_
  · obtain ⟨rfl, rfl⟩ : v = h' ∧ tail = t' := by simpa [RingBody.withPhase] using ht
    change distance v tail ≤ b.desc.slotCount
    omega
  · have hold := hfit q e he hel
    simp only [EntryFits, hph, RingBody.withPhase] at hold ⊢
    refine ⟨fun hm => ?_, fun hm => ⟨(hold.2 hm).1, writesIndex_mono (fun x hx => ?_) (hold.2 hm).2⟩⟩
    · rw [(hold.1 hm).1] at he
      simp [gone e he] at hel
    · simp only [decide_eq_true_eq] at hx ⊢
      omega

/-- The tail advances by a granted write that fits: the fill falls, and the other port's head write fits still. -/
theorem TrackingSound.advanceTail (h : TrackingSound s) {r : RingId} {b : RingBody} (hb : (s.ring r).body = some b)
    {head tail v : Index} (hph : b.phase = .tracking head tail)
    (gone : ∀ e ∈ s.inFlight (other b.desc.producer), e.isEligible = false)
    (hv : distance v tail ≤ distance head tail) :
    TrackingSound (s.setBody r (b.withPhase (.tracking head v))) := by
  obtain ⟨-, -, hbody⟩ := trackingSound_iff.1 h
  obtain ⟨⟨hcount, hfill⟩, hfit⟩ := hbody r b hb
  have hfill := hfill head tail hph
  have hsum : distance head v + distance v tail = distance head tail := distance_advance_tail hv
  refine h.setBody ⟨hcount, fun h' t' ht => ?_⟩ fun q e he hel => ?_
  · obtain ⟨rfl, rfl⟩ : head = h' ∧ v = t' := by simpa [RingBody.withPhase] using ht
    change distance head v ≤ b.desc.slotCount
    omega
  · have hold := hfit q e he hel
    simp only [EntryFits, hph, RingBody.withPhase] at hold ⊢
    refine ⟨fun hm => ⟨(hold.1 hm).1, writesIndex_mono (fun x hx => ?_) (hold.1 hm).2⟩, fun hm => ?_⟩
    · simp only [decide_eq_true_eq] at hx ⊢
      omega
    · rw [(hold.2 hm).1] at he
      simp [gone e he] at hel

theorem marks_of_mark {e : InFlight} {r : RingId} {w : IndexWord} (h : e.mark = some (.ringIndex r w)) :
    e.marks r w = true := by
  simp [InFlight.marks, h]

theorem TrackingSound.applyIndex (h : TrackingSound s) {p : Port} {e : InFlight} (hg : GrantedFits s p e)
    {r : RingId} {w : IndexWord} (hm : e.mark = some (.ringIndex r w)) {x : WriteWord}
    (hx : singleWrite e.request.access = some x) : TrackingSound (applyIndex r w (lowHalf x.data) s) := by
  have hmark := marks_of_mark hm
  unfold Machine.applyIndex
  split
  · rename_i b hb
    split
    · rename_i head tail hph
      have hfit := hg.fits r b hb
      simp only [EntryFits, hph] at hfit
      cases w with
      | head =>
        obtain ⟨rfl, hv⟩ := hfit.1 hmark
        rw [writesIndex_of hx] at hv
        exact (Keeps.markCrossing ..).tracking (h.advanceHead hb hph hg.gone (by simpa using hv))
      | tail =>
        obtain ⟨rfl, hv⟩ := hfit.2 hmark
        rw [writesIndex_of hx] at hv
        exact ((Keeps.markCrossing ..).trans (.retestHeld r)).tracking
          (h.advanceTail hb hph hg.gone (by simpa using hv))
    · exact h
  · exact h

/-- What an observing grant can do: nothing, or its ring's observation is set, or the ring recovers (R62, R63). -/
theorem observeIndex_cases (p : Port) (r : RingId) (w : IndexWord) (x : WriteWord) (s : State) :
    observeIndex p r w x s = s ∨
      ∃ b fault oh ot oh' ot', (s.ring r).body = some b ∧ b.phase = .faulted fault oh ot ∧ b.desc.owner w = p ∧
        (oh', ot') = (match w with
          | .head => (some (lowHalf x.data), ot)
          | .tail => (oh, some (lowHalf x.data))) ∧
        (observeIndex p r w x s = s.setBody r (b.withPhase (.faulted fault oh' ot')) ∨
          ∃ v, oh' = some v ∧ ot' = some v ∧
            observeIndex p r w x s = raiseRing r .recovered (s.setBody r (b.withPhase (.tracking v v)))) := by
  unfold observeIndex
  split
  · rename_i b hb
    split
    · rename_i fault oh ot hph
      split
      · rename_i hc
        refine .inr ⟨b, fault, oh, ot, ?_⟩
        have hq (oh' ot' : Option Index) :
            quiesceRecovery r b fault oh' ot' s = s.setBody r (b.withPhase (.faulted fault oh' ot')) ∨
              ∃ v, oh' = some v ∧ ot' = some v ∧
                quiesceRecovery r b fault oh' ot' s =
                  raiseRing r .recovered (s.setBody r (b.withPhase (.tracking v v))) := by
          unfold quiesceRecovery
          split
          · rename_i h t
            split
            · rename_i ht
              exact .inr ⟨h, rfl, by rw [ht], rfl⟩
            · exact .inl rfl
          · exact .inl rfl
        cases w with
        | head => exact ⟨_, _, hb, hph, hc.2.1, rfl, hq ..⟩
        | tail => exact ⟨_, _, hb, hph, hc.2.1, rfl, hq ..⟩
      · exact .inl rfl
    · exact .inl rfl
  · exact .inl rfl

theorem KeepsTables.observeIndex (p : Port) (r : RingId) (w : IndexWord) (x : WriteWord) :
    KeepsTables s (observeIndex p r w x s) := by
  rcases observeIndex_cases p r w x s with h | ⟨b, fault, oh, ot, oh', ot', hb, hph, -, -, h | ⟨v, -, -, h⟩⟩ <;> rw [h]
  · exact (Keeps.refl s).toKeepsTables
  · exact .setBody hb (.inl rfl) (by simp [RingBody.withPhase]) (by simp [hph]) rfl id
  · exact (KeepsTables.setTracking hb v v).trans (Keeps.raiseRing ..).toKeepsTables

/-- An observing grant leaves no marked write ELIGIBLE for the index word it observes: such a write would be of the
same port. -/
theorem TrackingSound.observeIndex (h : TrackingSound s) {p : Port} (gone : ∀ e ∈ s.inFlight p, e.isEligible = false)
    (r : RingId) (w : IndexWord) (x : WriteWord) : TrackingSound (observeIndex p r w x s) := by
  obtain ⟨-, -, hbody⟩ := trackingSound_iff.1 h
  rcases observeIndex_cases p r w x s with h' | ⟨b, fault, oh, ot, oh', ot', hb, hph, hown, hobs, hcase⟩
  · rwa [h']
  obtain ⟨⟨hcount, -⟩, hfit⟩ := hbody r b hb
  have hfresh (q : Port) (e : InFlight) (he : e ∈ s.inFlight q) (hel : e.isEligible = true) :
      EntryFits (b.withPhase (.faulted fault oh' ot')) q r e := by
    have hold := hfit q e he hel
    have hq : q ≠ p := by rintro rfl; simp [gone e he] at hel
    simp only [EntryFits, hph, RingBody.withPhase] at hold ⊢
    cases w <;> obtain ⟨rfl, rfl⟩ := Prod.mk.injEq .. ▸ hobs
    · exact ⟨fun hm => absurd ((hold.1 hm).1.trans hown) hq, hold.2⟩
    · exact ⟨hold.1, fun hm => absurd ((hold.2 hm).1.trans hown) hq⟩
  rcases hcase with h' | ⟨v, rfl, rfl, h'⟩ <;> rw [h']
  · exact h.setBody ⟨hcount, by simp [RingBody.withPhase]⟩ hfresh
  · refine (Keeps.raiseRing ..).tracking (h.setBody ⟨hcount, fun h' t' ht => ?_⟩ fun q e he hel => ?_)
    · obtain ⟨rfl, rfl⟩ : v = h' ∧ v = t' := by simpa [RingBody.withPhase] using ht
      simp [distance_self]
    · have hnew := hfresh q e he hel
      simp only [EntryFits, RingBody.withPhase, reduceCtorEq, and_false, imp_false, Bool.not_eq_true] at hnew
      exact .of_unmarked fun w => match w with | .head => hnew.1 | .tail => hnew.2

/-! ### Command head and notice tail writes granted (R114, R124, R134) -/

theorem Keeps.applyNoticeTail (p : Port) (v : Index) : Keeps s (applyNoticeTail p v s) := by
  unfold Machine.applyNoticeTail
  split
  · rename_i u hu
    exact .setUnit (.inr (by rw [hu]; rfl))
  · exact .refl s

theorem Keeps.restartEngine {info : HaltInfo} (h : s.engine.state = .halted info) : Keeps s (restartEngine s) := by
  have hfree : EngineFree (Machine.presentEngine (statusWrite s) s) := .of_state
    (by simp [Machine.presentEngine, h]) (by simp [Machine.presentEngine, h])
  unfold Machine.restartEngine
  dsimp only
  split
  · exact (Keeps.presentEngine _).trans ((Keeps.setEngine_free hfree).trans (.presentEngine _))
  · exact (Keeps.presentEngine _).trans (.fetchOrIdle hfree)

theorem Keeps.applyHead (v : Index) : Keeps s (applyHead v s) := by
  have hset : Keeps s (s.setEngine { s.engine with head := v }) := .setEngine_same _ rfl
  unfold Machine.applyHead
  dsimp only
  split
  · rename_i h
    exact hset.trans (.fetchOrIdle (.of_state (by simp [h]) (by simp [h])))
  · rename_i info h
    have hhalt : (s.setEngine { s.engine with head := v }).engine.state = .halted info := h
    exact hset.trans (.restartEngine hhalt)
  · exact hset

/-! ### The grants -/

theorem KeepsTables.grantEffect (p : Port) (e : InFlight) : KeepsTables s (grantEffect p e s) := by
  unfold Machine.grantEffect
  split
  · exact (Keeps.refl s).toKeepsTables
  · split
    · exact (Keeps.applyNoticeTail ..).toKeepsTables
    · exact (Keeps.applyHead _).toKeepsTables
    · split
      · exact .applyIndex ..
      · exact .observeIndex ..
    · split
      · exact .observeIndex ..
      · exact (Keeps.refl s).toKeepsTables

theorem TrackingSound.grantEffect (h : TrackingSound s) {p : Port} {e : InFlight} (hg : GrantedFits s p e) :
    TrackingSound (grantEffect p e s) := by
  unfold Machine.grantEffect
  split
  · exact h
  · rename_i x hx
    split
    · exact (Keeps.applyNoticeTail ..).tracking h
    · exact (Keeps.applyHead _).tracking h
    · rename_i r w hm
      split
      · exact h.applyIndex hg hm hx
      · exact h.observeIndex hg.gone r w x
    · split
      · exact h.observeIndex hg.gone ..
      · exact h

/-- Every TRACKING ring is TRACKING still. -/
def TrackingStays (s t : State) : Prop := ∀ r, (s.ring r).isTracking = true → (t.ring r).isTracking = true

theorem TrackingStays.of_bodies (h : ∀ r, (t.ring r).body = (s.ring r).body) : TrackingStays s t :=
  fun r => (RingEntry.isTracking_congr (h r).symm).le

theorem TrackingStays.trans {u : State} (h : TrackingStays s t) (h' : TrackingStays t u) : TrackingStays s u :=
  fun r hr => h' r (h r hr)

theorem TrackingStays.withPhase {r : RingId} {b : RingBody} (hb : (s.ring r).body = some b) (ph : RingPhase)
    (h : ∀ head tail, b.phase = .tracking head tail → ∃ head' tail', ph = .tracking head' tail') :
    TrackingStays s (s.setBody r (b.withPhase ph)) := by
  intro r' ht
  by_cases hr : r' = r
  · subst hr
    obtain ⟨head, tail, hph⟩ := (RingEntry.isTracking_iff hb).1 ht
    have hb' : ((s.setBody r' (b.withPhase ph)).ring r').body = some (b.withPhase ph) := by simp
    exact (RingEntry.isTracking_iff hb').2 (h head tail hph)
  · rwa [State.ring_setBody_ne _ _ hr]

theorem TrackingStays.drainTestSeeding : TrackingStays s (drainTestSeeding s) := by
  unfold Machine.drainTestSeeding
  split
  · rename_i r _
    rcases drainTest_cases r s with h | ⟨b, rec, hb, hph, -, h⟩ <;> rw [h]
    · exact .of_bodies fun _ => rfl
    · exact (TrackingStays.withPhase hb _ (by simp [hph])).trans (.of_bodies fun _ => rfl)
  · exact .of_bodies fun _ => rfl

theorem TrackingStays.applyIndex (r : RingId) (w : IndexWord) (v : Index) :
    TrackingStays s (applyIndex r w v s) := by
  unfold Machine.applyIndex
  split
  · rename_i b hb
    split
    · rename_i head tail _
      cases w
      · exact (TrackingStays.withPhase hb (.tracking v tail) fun _ _ _ => ⟨_, _, rfl⟩).trans (.of_bodies (by simp))
      · exact (TrackingStays.withPhase hb (.tracking head v) fun _ _ _ => ⟨_, _, rfl⟩).trans (.of_bodies (by simp))
    · exact .of_bodies fun _ => rfl
  · exact .of_bodies fun _ => rfl

theorem TrackingStays.observeIndex (p : Port) (r : RingId) (w : IndexWord) (x : WriteWord) :
    TrackingStays s (observeIndex p r w x s) := by
  rcases observeIndex_cases p r w x s with h | ⟨b, fault, oh, ot, oh', ot', hb, hph, -, -, h | ⟨v, -, -, h⟩⟩ <;> rw [h]
  · exact .of_bodies fun _ => rfl
  · exact .withPhase hb _ (by simp [hph])
  · exact (TrackingStays.withPhase hb (.tracking v v) fun _ _ _ => ⟨v, v, rfl⟩).trans (.of_bodies (by simp))

@[simp] theorem applyNoticeTail_rings (p : Port) (v : Index) (s : State) :
    (applyNoticeTail p v s).rings = s.rings := by
  unfold applyNoticeTail
  split <;> rfl

@[simp] theorem restartEngine_rings (s : State) : (restartEngine s).rings = s.rings := by
  unfold restartEngine
  dsimp only
  split <;> simp

@[simp] theorem applyHead_rings (v : Index) (s : State) : (applyHead v s).rings = s.rings := by
  unfold applyHead
  dsimp only
  split <;> simp

theorem TrackingStays.grantEffect (p : Port) (e : InFlight) : TrackingStays s (grantEffect p e s) := by
  unfold Machine.grantEffect
  split
  · exact .of_bodies fun _ => rfl
  · split
    · exact .of_bodies fun r => by rw [State.ring_congr (applyNoticeTail_rings ..)]
    · exact .of_bodies fun r => by rw [State.ring_congr (applyHead_rings ..)]
    · split
      · exact .applyIndex _ _ _
      · exact .observeIndex _ _ _ _
    · split
      · exact .observeIndex _ _ _ _
      · exact .of_bodies fun _ => rfl

/-- A granted request is handed over; an applied mark is of a TRACKING ring (R172, R174, R36). -/
theorem Keeps.handOver {q : Requester} {origin : Origin} {x : Access}
    (h : ∀ ring ∈ (OutEntry.mk origin false).applied?, ∃ r ∈ ring, (s.ring r).isTracking = true) :
    Keeps s (handOver q origin x s) where
  notices h := h
  seeding h := h
  applied h' := fun o ho ring hr => by
    rcases List.mem_append.1 ho with ho | ho
    · exact h' o ho ring hr
    · obtain rfl := List.mem_singleton.1 ho
      exact h ring hr
  regions h := h
  tracking h := h

/-- An applied mark is set for a TRACKING ring alone (R33). -/
theorem isApplied_tracking {e : InFlight} (h : isApplied s e = true) : ∃ r ∈ e.ring?, (s.ring r).isTracking = true := by
  unfold isApplied at h
  split at h
  · exact (Option.any_eq_true ..).1 h
  · cases h

theorem Keeps.grantPort {p : Port} {e : InFlight} (he : eligibleEntry s p = some e) : Keeps s (grantPort p e s) := by
  unfold Machine.grantPort
  dsimp only
  set granted := Machine.changeEntry p InFlight.isEligible (fun e => { e with stage := .granted }) s with hgr
  have hlist : Keeps s granted := .changeEntry fun _ _ => .leaves rfl
  have hrest : Keeps (Machine.grantEffect p e granted)
      (Machine.handOver (.port p) (.port p e.serial e.ring? (isApplied s e)) e.request.access
        (Machine.drainTestSeeding (Machine.grantEffect p e granted))) := by
    refine Keeps.drainTestSeeding.trans (.handOver fun ring hring => ?_)
    cases ha : isApplied s e <;>
      simp only [OutEntry.applied?, ha, Option.mem_def, reduceCtorEq, Option.some.injEq] at hring
    obtain ⟨r, hr, ht⟩ := isApplied_tracking ha
    refine ⟨r, hring ▸ hr, ((TrackingStays.grantEffect p e).trans .drainTestSeeding) r ?_⟩
    exact (RingEntry.isTracking_congr (by simp [hgr])).le ht
  exact
    { (hlist.toKeepsTables.trans (.grantEffect p e)).trans hrest.toKeepsTables with
      tracking := fun h => hrest.tracking ((hlist.tracking h).grantEffect (.of_eligibleEntry h he)) }

theorem Keeps.engineGrantEffect (hl : s.resetLine = false) (k : EngineAccess) : Keeps s (engineGrantEffect k s) := by
  unfold Machine.engineGrantEffect
  split
  · split
    · rename_i hi
      have hmap : Keeps s { s with windowMapped := true } := .of_same (by simp)
      exact hmap.trans (.setEngine (by simp [hi]) (by simp [hl]))
    · exact .refl s
  · split
    · rename_i hst _
      exact (Keeps.setEngine_same { s.engine with tail := _, current := none } rfl).trans
        (.fetchOrIdle (.of_state (by simp [hst]) (by simp [hst])))
    · exact .refl s
  · split
    · exact .presentEngine _
    · exact .refl s
  all_goals exact .refl s

theorem Keeps.grantEngine (hl : s.resetLine = false) (q : EngineRequest) (rest : List EngineRequest) :
    Keeps s (grantEngine q rest s) := by
  have hl' : (s.setEngine { s.engine with requests := rest }).resetLine = false := hl
  exact (Keeps.setEngine_same { s.engine with requests := rest } rfl).trans
    ((Keeps.engineGrantEffect hl' q.kind).trans (.handOver (by simp [OutEntry.applied?])))

theorem Keeps.grantNotice (j : NoticeJob) : Keeps s (grantNotice j s) :=
  (Keeps.setJob (some { j with waiting := false })).trans (.handOver (by simp [OutEntry.applied?]))

theorem resetLine_of_nextGrant {q : Requester} (h : nextGrant s = some q) : s.resetLine = false := by
  unfold nextGrant at h
  split at h
  · cases h
  · simp_all

theorem Keeps.arbitrate : Keeps s (arbitrate s) := by
  unfold Machine.arbitrate
  split
  · rename_i q hq
    have hl := resetLine_of_nextGrant hq
    unfold grantTo
    split
    · split
      · exact .grantPort ‹_›
      · exact .refl s
    · split
      · exact .grantEngine hl ..
      · exact .refl s
    · split
      · exact .grantNotice _
      · exact .refl s
  · exact .refl s

theorem Keeps.execGrant (h : execGrant s = .next t) : Keeps s t := by
  obtain rfl := Host.Outcome.next.inj h
  exact .arbitrate

end Sys2Proof.Machine
end

section
/-! SUPPORT. Memory responses (R174, R175) and the notice writer (06) keep the invariants. -/

namespace Sys2Proof.Machine

variable {s t : State}

/-! ### Memory responses -/

theorem Keeps.answered {isIt : Origin → Bool} {act : Origin → State → State} (h : ∀ o u, Keeps u (act o u)) :
    Keeps s (answered isIt act s) := by
  unfold Machine.answered
  split
  · exact .refl s
  · rename_i o rest ho
    split
    · exact (Keeps.setOutstanding (.of_subset (ho ▸ List.subset_cons_self o rest))).trans (h _ _)
    · exact .refl s

theorem Keeps.answerPort (p : Port) (serial : Nat) (ring : Option RingId) (applied : Bool) (status : MemStatus)
    (data : List Word) : Keeps s (answerPort p serial ring applied status data s) := by
  unfold Machine.answerPort
  split
  · exact .refl s
  · have hdone (e : InFlight) : Keeps s (Machine.changeEntry p (fun e => e.serial == serial)
        (fun e' => { e' with stage := .done (busStatus status) (responseData e.request.access data) }) s) :=
      .changeEntry fun _ _ => .leaves rfl
    dsimp only
    split
    · split
      · exact (hdone _).trans (.faultEntry ..)
      · exact hdone _
    · exact hdone _

theorem Keeps.execMemoryResponse {status : MemStatus} {data : List Word}
    (h : execMemoryResponse status data s = .next t) : Keeps s t := by
  obtain rfl := Host.Outcome.next.inj h
  refine .answered fun o u => ?_
  split
  · exact .answerPort ..
  · exact .refl u

theorem Keeps.execDiscardedResponse (h : execDiscardedResponse s = .next t) : Keeps s t := by
  obtain rfl := Host.Outcome.next.inj h
  unfold dropResponse
  split
  · exact .refl s
  · rename_i o rest ho
    split
    · exact .setOutstanding (.of_subset (ho ▸ List.subset_cons_self o rest))
    · exact .refl s

/-! ### Seed reads (R41 to R43) -/

/-- A seeding ends OK for seeds of a fill within N (R42). -/
theorem seedingStatus_ok {d : Descriptor} {peerReset : Bool} {headSeed tailSeed : Seed}
    (h : seedingStatus d peerReset headSeed tailSeed = .ok) :
    ∃ x y, headSeed = .word x ∧ tailSeed = .word y ∧ distance (lowHalf x) (lowHalf y) ≤ d.slotCount := by
  unfold seedingStatus at h
  split at h
  · split at h
    · cases h
    · split at h
      · cases h
      · rename_i x y _ hs
        exact ⟨x, y, rfl, rfl, by simp only [not_or, not_lt] at hs; exact hs.2.2⟩
  · cases h

/-- What a settled seeding leaves: TRACKING within N, or the state it came from (R42, R43). -/
theorem settledPhase_cases (d : Descriptor) (peerReset : Bool) (purpose : SeedPurpose) (headSeed tailSeed : Seed) :
    (∃ head tail, settledPhase (seedingStatus d peerReset headSeed tailSeed) purpose headSeed tailSeed =
        .tracking head tail ∧ distance head tail ≤ d.slotCount) ∨
      settledPhase (seedingStatus d peerReset headSeed tailSeed) purpose headSeed tailSeed = .defined ∨
      ∃ f, settledPhase (seedingStatus d peerReset headSeed tailSeed) purpose headSeed tailSeed =
        .faulted f none none := by
  generalize hst : seedingStatus d peerReset headSeed tailSeed = status
  unfold settledPhase
  split
  · obtain ⟨x, y, hx, hy, hd⟩ := seedingStatus_ok hst
    cases hx
    cases hy
    exact .inl ⟨_, _, rfl, hd⟩
  · split
    · exact .inr (.inl rfl)
    · exact .inr (.inr ⟨_, rfl⟩)

/-- A seeding in step READING settles: no marked index write of its ring is ELIGIBLE (R40). -/
theorem Keeps.settleSeeding {r : RingId} {b : RingBody} {rec rec₀ : SeedingRecord} (hb : (s.ring r).body = some b)
    (hph : b.phase = .seeding rec₀) (hstep : rec₀.step = .reading) (headSeed tailSeed : Seed) :
    Keeps s (settleSeeding r b rec headSeed tailSeed s) := by
  have hcases := settledPhase_cases b.desc rec.peerReset rec.purpose headSeed tailSeed
  unfold Machine.settleSeeding
  dsimp only
  generalize settledPhase _ rec.purpose headSeed tailSeed = ph at hcases ⊢
  have hns (rec' : SeedingRecord) : ph ≠ .seeding rec' := by
    rcases hcases with ⟨_, _, rfl, -⟩ | rfl | ⟨_, rfl⟩ <;> simp
  have hset : Keeps s (s.setBody r (b.withPhase ph)) := by
    refine .withPhase hb (fun rec' h => absurd h (hns rec')) (by simp [hph]) ?_ fun p e _ _ hfit => ?_
    · rcases hcases with ⟨h, t, rfl, hd⟩ | rfl | ⟨_, rfl⟩ <;> simp
      exact hd
    · simp only [EntryFits, hph] at hfit
      obtain ⟨hh, ht⟩ := hfit.1 hstep
      exact .of_unmarked fun w => match w with | .head => hh | .tail => ht
  refine hset.trans (Keeps.unstallAll.trans (.settleWait (fun r' hr => ?_) ..))
  obtain rfl : r = r' := by simpa using hr
  have hseed : ((s.setBody r (b.withPhase ph)).ring r).isSeeding = false := by
    have hb' : ((s.setBody r (b.withPhase ph)).ring r).body = some (b.withPhase ph) := by simp
    rw [← Bool.not_eq_true, RingEntry.isSeeding_iff hb']
    exact fun ⟨rec', h⟩ => hns rec' h
  simpa using hseed

theorem Keeps.fillSeed (r : RingId) (w : IndexWord) (seed : Seed) : Keeps s (fillSeed r w seed s) := by
  unfold Machine.fillSeed
  split
  · rename_i b hb
    split
    · rename_i rec hph
      split
      · rename_i hstep
        have hset (rec' : SeedingRecord) (h' : rec'.step = rec.step) (hp : rec'.purpose = rec.purpose) :
            Keeps s (s.setBody r (b.withPhase (.seeding rec'))) := by
          refine .withPhase hb (fun _ _ => .inl ⟨rec, hph⟩) (by simp [hph]) (by simp) fun p e _ _ hfit => ?_
          simpa only [EntryFits, hph, RingBody.withPhase, h', hp] using hfit
        dsimp only
        split
        · exact .settleSeeding hb hph hstep ..
        · exact hset _ (by cases w <;> rfl) (by cases w <;> rfl)
      · exact .refl s
    · exact .refl s
  · exact .refl s

theorem Keeps.execSeedResponse {status : MemStatus} {word : Word} (h : execSeedResponse status word s = .next t) :
    Keeps s t := by
  obtain rfl := Host.Outcome.next.inj h
  refine .answered fun o u => ?_
  split
  · exact .fillSeed ..
  · exact .refl u

/-! ### The engine's other accesses -/

theorem Keeps.fetched (status : MemStatus) (words : SlotWords) : Keeps s (fetched status words s) := by
  unfold Machine.fetched
  split
  · rename_i hs
    have hfree : EngineFree s := .of_state (by simp [hs]) (by simp [hs])
    split
    · exact .setEngine_free hfree
    · exact .haltEngine hfree _
  · exact .refl s

theorem Keeps.execFetchResponse {status : MemStatus} {words : SlotWords}
    (h : execFetchResponse status words s = .next t) : Keeps s t := by
  obtain rfl := Host.Outcome.next.inj h
  exact .answered fun _ _ => .fetched ..

theorem Keeps.reportBurstAnswered (status : MemStatus) : Keeps s (reportBurstAnswered status s) := by
  unfold Machine.reportBurstAnswered
  split
  · rename_i r hs _
    split
    · exact (Keeps.setEngine_same { s.engine with phase := some .tail } rfl).trans (.presentEngine _)
    · exact .haltEngine (.of_state (by simp [hs]) (by simp [hs])) _
  · exact .refl s

theorem Keeps.execReportBurstResponse {status : MemStatus} (h : execReportBurstResponse status s = .next t) :
    Keeps s t := by
  obtain rfl := Host.Outcome.next.inj h
  exact .answered fun _ _ => .reportBurstAnswered _

theorem Keeps.reportTailAnswered (status : MemStatus) : Keeps s (reportTailAnswered status s) := by
  unfold Machine.reportTailAnswered
  split
  · rename_i hs
    split
    · split
      · exact .setEngine_same _ rfl
      · refine .haltEngine (.of_state ?_ ?_) _ <;> rcases hs with hs | hs <;> simp [hs]
    · exact .refl s
  · exact .refl s

theorem Keeps.execReportTailResponse {status : MemStatus} (h : execReportTailResponse status s = .next t) :
    Keeps s t := by
  obtain rfl := Host.Outcome.next.inj h
  exact .answered fun _ _ => .reportTailAnswered _

theorem Keeps.execInitialisationBurstResponse (status : MemStatus)
    (h : execInitialisationBurstResponse status s = .next t) : Keeps s t := by
  obtain rfl := Host.Outcome.next.inj h
  exact .answered fun _ u => .refl u

theorem Keeps.execHaltBurstResponse (status : MemStatus) (h : execHaltBurstResponse status s = .next t) :
    Keeps s t := by
  obtain rfl := Host.Outcome.next.inj h
  exact .answered fun _ u => .refl u

theorem Keeps.execRestartStatusWriteResponse (status : MemStatus)
    (h : execRestartStatusWriteResponse status s = .next t) : Keeps s t := by
  obtain rfl := Host.Outcome.next.inj h
  exact .answered fun _ u => .refl u

/-! ### The notice writer (R95, R107 to R111, R116) -/

/-- A unit changes in what its regions do not depend on. -/
theorem Keeps.setUnit_same {p : Port} {u : NoticeUnit} (hu : s.units.get p = some u) (u' : NoticeUnit)
    (h : u'.regions = u.regions) : Keeps s (s.setUnit p (some u')) := .setUnit (.inr (by simp [hu, h]))

theorem Keeps.serve (p : Port) (w : NoticeWrite) (x : Access) : Keeps s (serve p w x s) := by
  unfold Machine.serve
  exact .of_same (by simp)

theorem Keeps.nextWrite (p : Port) (w : NoticeWrite) (x : Access) : Keeps s (nextWrite p w x s) := .setJob _

theorem Keeps.execSetupJob (h : execSetupJob s = .next t) : Keeps s t := by
  obtain rfl := Host.Outcome.next.inj h
  unfold serveSetup
  split
  · split
    · exact .serve ..
    · exact .refl s
  · exact .refl s

theorem Keeps.failSetup (p : Port) : Keeps s (failSetup p s) :=
  (Keeps.setJob none).trans ((Keeps.unitOff p).trans (.settleWait (by simp) ..))

theorem Keeps.setupAnswered (p : Port) (w : NoticeWrite) (status : MemStatus) :
    Keeps s (setupAnswered p w status s) := by
  unfold Machine.setupAnswered
  split
  · exact .refl s
  · rename_i u hu
    split
    · exact .failSetup p
    · exact .nextWrite ..
    · exact (Keeps.setUnit_same hu { u with phase := .ready none false } rfl).trans
        ((Keeps.setJob none).trans (.settleWait (by simp) ..))
    · exact .refl s

theorem Keeps.execSetupWriteResponse {status : MemStatus} (h : execSetupWriteResponse status s = .next t) :
    Keeps s t := by
  obtain rfl := Host.Outcome.next.inj h
  refine .answered fun o u => ?_
  split
  · exact .setupAnswered ..
  · exact .refl u

theorem Keeps.takeRecord {p : Port} {u : NoticeUnit} (hu : s.units.get p = some u) (closing : Bool) (src : Source) :
    Keeps s (takeRecord p u closing src s) := by
  have hu' : (dequeue src p (Machine.setPendingSet src p 0 s)).units.get p = some u := by simpa using hu
  exact (Keeps.emptySource src p).trans ((Keeps.setUnit_same hu' _ (by rfl)).trans (.serve ..))

theorem Keeps.execRecordTaking (h : execRecordTaking s = .next t) : Keeps s t := by
  obtain rfl := Host.Outcome.next.inj h
  unfold serveRecord
  split
  · split
    · exact .takeRecord ‹_› ..
    · exact .refl s
  · exact .refl s

theorem Keeps.failRecord {p : Port} {u : NoticeUnit} (hu : s.units.get p = some u) (rec : RecordInFlight)
    (closing : Bool) (f : FailingWrite) : Keeps s (failRecord p u rec closing f s) := by
  have hback : Keeps s (Machine.returnKinds p rec ((s.setUnit p (some { u with phase := .halted f })).setJob none)) :=
    (Keeps.setUnit_same hu _ (by rfl)).trans ((Keeps.setJob none).trans (.returnKinds ..))
  unfold Machine.failRecord
  dsimp only
  split
  · exact hback.trans ((Keeps.unitOff p).trans (.settleWait (by simp) ..))
  · exact hback

theorem Keeps.completeRecord {p : Port} {u : NoticeUnit} (hu : s.units.get p = some u) (closing : Bool) :
    Keeps s (completeRecord p u closing s) := by
  have hset : Keeps s ((s.setUnit p
      (some { u with head := u.head + 1, seq := u.seq + 1, phase := .ready none closing })).setJob none) :=
    (Keeps.setUnit_same hu _ (by rfl)).trans (.setJob none)
  unfold Machine.completeRecord
  dsimp only
  split
  · exact hset.trans ((Keeps.unitOff p).trans (.settleWait (by simp) ..))
  · exact hset

theorem Keeps.recordAnswered (p : Port) (w : NoticeWrite) (status : MemStatus) :
    Keeps s (recordAnswered p w status s) := by
  unfold Machine.recordAnswered
  split
  · exact .refl s
  · rename_i u hu
    split
    · split
      · exact (Keeps.setUnit_same hu _ (by rfl)).trans (.nextWrite ..)
      · exact .failRecord hu ..
      · exact .completeRecord hu _
      · exact .failRecord hu ..
      · exact .refl s
    · exact .refl s

theorem Keeps.execRecordBurstResponse {status : MemStatus} (h : execRecordBurstResponse status s = .next t) :
    Keeps s t := by
  obtain rfl := Host.Outcome.next.inj h
  refine .answered fun o u => ?_
  split
  · exact .recordAnswered ..
  · exact .refl u

theorem Keeps.execNoticeHeadWriteResponse {status : MemStatus}
    (h : execNoticeHeadWriteResponse status s = .next t) : Keeps s t := by
  obtain rfl := Host.Outcome.next.inj h
  refine .answered fun o u => ?_
  split
  · exact .recordAnswered ..
  · exact .refl u

end Sys2Proof.Machine
end

section
/-! SUPPORT. Acceptance, departure and presentation (R163 to R169) keep the invariants. A marked index write is
forwarded here alone, after the checks of R25 to R29. -/

namespace Sys2Proof.Machine

variable {s t : State} {p : Port}

/-! ### Acceptance and departure (R163, R166) -/

theorem Keeps.execAcceptance {q : Request} (h : execAcceptance p q s = .next t) : Keeps s t := by
  obtain rfl := Host.Outcome.next.inj h
  unfold accept
  split
  · refine .setPorts fun p' => ?_
    by_cases hp : p' = p
    · subst hp
      rw [PerPort.get_set_self]
      exact .append _ rfl
    · exact .of_eq (by rw [PerPort.get_set_ne _ _ hp]; rfl)
  · exact .refl s

theorem Keeps.execResponseDeparture (h : execResponseDeparture p s = .next t) : Keeps s t := by
  obtain rfl := Host.Outcome.next.inj h
  unfold depart
  split
  · exact .refl s
  · rename_i e rest he
    split
    · have hlist : Keeps s (s.setInFlight p rest) := .setInFlight (.of_sublist (he ▸ List.sublist_cons_self e rest))
      exact hlist.trans (.of_same (by simp))
    · exact .refl s

/-! ### The presented entry (R164, R165) -/

/-- Port `p` has no request between presentation and grant. -/
def NoneWaiting (s : State) (p : Port) : Prop := ∀ e ∈ s.inFlight p, e.isWaiting = false

theorem updateFirst_of_none {α : Type} {test : α → Bool} (f : α → α) {l : List α} (h : ∀ x ∈ l, test x = false) :
    updateFirst test f l = l := by
  induction l with
  | nil => rfl
  | cons x xs ih => simp [updateFirst, h x, ih fun y hy => h y (by simp [hy])]

/-- The members of a list after the first that meets a test is changed. -/
theorem mem_updateFirst {α : Type} {test : α → Bool} {f : α → α} {l : List α} {y : α}
    (h : y ∈ updateFirst test f l) : y ∈ l ∨ ∃ x, l.find? test = some x ∧ y = f x := by
  induction l with
  | nil => exact .inl h
  | cons x xs ih =>
    rw [updateFirst] at h
    split at h
    · rename_i hx
      rcases List.mem_cons.1 h with rfl | h
      · exact .inr ⟨x, by simp [hx], rfl⟩
      · exact .inl (by simp [h])
    · rename_i hx
      rcases List.mem_cons.1 h with rfl | h
      · exact .inl (by simp)
      · exact (ih h).imp (by simp +contextual) (by simp [hx])

/-- Where no entry waits, changing one leaves at most one that waits. -/
theorem OnceWaiting.updateFirst {l : List InFlight} (hw : ∀ e ∈ l, e.isWaiting = false) {test : InFlight → Bool}
    {f : InFlight → InFlight} (held : ∀ e, (f e).isHeld = true → (f e).mark = none) :
    OnceWaiting (updateFirst test f l) := by
  refine ⟨?_, fun e he hh => ?_⟩
  · induction l with
    | nil => simp [Machine.updateFirst]
    | cons x xs ih =>
      have hxs : xs.filter InFlight.isWaiting = [] := List.filter_eq_nil_iff.2 fun e he => by simp [hw e (by simp [he])]
      rw [Machine.updateFirst]
      split
      · rw [List.filter_cons, hxs]
        split <;> simp
      · rw [List.filter_cons_of_neg (by simp [hw x])]
        exact ih fun e he => hw e (by simp [he])
  · rcases mem_updateFirst he with he | ⟨x, -, rfl⟩
    · have := hw e he
      simp [InFlight.isWaiting_of_isHeld hh] at this
    · exact held x hh

/-- The presented entry takes a stage without a ring's mark. -/
theorem Keeps.changePresented (hw : NoneWaiting s p) {f : InFlight → InFlight}
    (held : ∀ e, (f e).isHeld = true → (f e).mark = none)
    (eligible : ∀ e, (f e).isEligible = true → (f e).Unmarked) : Keeps s (changePresented p f s) := by
  refine .setInFlight ⟨fun _ => .updateFirst hw held, fun _ e he hel => ?_⟩
  rcases mem_updateFirst he with he | ⟨x, -, rfl⟩
  · exact .inl he
  · exact .inr (eligible x hel)

theorem Keeps.refusePresented (cls : Option AccessClass) : Keeps s (refusePresented p cls s) :=
  .changeEntry fun _ _ => .leaves rfl

theorem Keeps.stallPresented (hw : NoneWaiting s p) (cls : AccessClass) : Keeps s (stallPresented p cls s) :=
  .changePresented hw (fun _ _ => rfl) fun _ _ => .of_mark rfl

theorem Keeps.forwardPresented (hw : NoneWaiting s p) (cls : AccessClass) {mark : Option ApplyMark}
    (hm : ∀ r w, mark ≠ some (.ringIndex r w)) : Keeps s (forwardPresented p cls mark s) := by
  refine .changePresented hw (fun _ h => ?_) fun _ _ r w => ?_
  · simp [InFlight.isHeld] at h
  · simpa [InFlight.marks] using hm r w

theorem Keeps.holdPresented (hw : NoneWaiting s p) (cls : AccessClass) (h : HoldSlot) :
    Keeps s (holdPresented p cls h s) := by
  have hw' : NoneWaiting (s.setHold p (some h)) p := hw
  exact (Keeps.setHold p (some h)).trans (.changePresented hw' (fun _ _ => rfl) fun _ _ => .of_mark rfl)

theorem NoneWaiting.of_ports (h : NoneWaiting s p) (ports : t.ports = s.ports) : NoneWaiting t p := by
  simpa only [NoneWaiting, State.inFlight, ports] using h

theorem NoneWaiting.releaseHeldOn (h : NoneWaiting s p) (r : RingId) : NoneWaiting (releaseHeldOn r s) p := by
  unfold Machine.releaseHeldOn
  split
  · exact h
  · rename_i q _ _
    have hl : (Machine.releaseHeld q s).inFlight p = s.inFlight p := by
      by_cases hq : p = q
      · subst hq
        rw [Machine.releaseHeld, changeEntry, State.inFlight_setInFlight_self, State.inFlight_setHold]
        refine updateFirst_of_none _ fun e he => ?_
        have := h e he
        simp only [InFlight.isWaiting, Bool.or_eq_false_iff] at this
        exact this.2
      · exact State.inFlight_setInFlight_ne _ _ hq
    rwa [NoneWaiting, hl]

theorem NoneWaiting.faultEntry (h : NoneWaiting s p) (r : RingId) (cause : FaultCause) :
    NoneWaiting (faultEntry r cause s) p := by
  unfold Machine.faultEntry
  split
  · split
    · refine NoneWaiting.of_ports (NoneWaiting.releaseHeldOn ?_ r) (raiseRing_ports ..)
      exact h.of_ports rfl
    · exact h
  · exact h

/-! ### Index writes of a TRACKING ring (R25 to R32) -/

/-- What passes the three checks fits (R26 to R29). -/
theorem indexCheck_none {d : Descriptor} {head tail : Index} {w : IndexWord} {x : WriteWord}
    (h : indexCheck d head tail w p x = none) : d.owner w = p ∧
      match w with
      | .head => distance (lowHalf x.data) head ≤ d.slotCount - distance head tail
      | .tail => distance (lowHalf x.data) tail ≤ distance head tail := by
  unfold indexCheck at h
  split at h
  · cases h
  · split at h
    · cases h
    · rename_i ho
      refine ⟨not_not.1 ho, ?_⟩
      cases w <;> simpa using h

theorem marks_ringIndex {e : InFlight} {r r' : RingId} {w w' : IndexWord} (hm : e.mark = some (.ringIndex r w))
    (h : e.marks r' w' = true) : r' = r ∧ w' = w := by
  simp only [InFlight.marks, hm, beq_iff_eq, Option.some.injEq, ApplyMark.ringIndex.injEq] at h
  exact ⟨h.1.symm, h.2.symm⟩

/-- A valid index write is forwarded with its mark (R32). -/
theorem Keeps.forwardIndexWrite (hw : NoneWaiting s p) {e : InFlight} (hq : oldestQueued s p = some e) {r : RingId}
    {b : RingBody} (hb : (s.ring r).body = some b) {head tail : Index} (hph : b.phase = .tracking head tail)
    {w : IndexWord} {x : WriteWord} (hx : singleWrite e.request.access = some x)
    (hc : indexCheck b.desc head tail w p x = none) :
    Keeps s (Machine.forwardPresented p (indexClass r w) (some (.ringIndex r w)) s) := by
  refine { KeepsTables.setPorts _ with tracking := fun h => ?_ }
  obtain ⟨hown, hadv⟩ := indexCheck_none hc
  obtain ⟨ho, hn, hbody⟩ := trackingSound_iff.1 h
  set f : InFlight → InFlight := fun e =>
    { e with stage := .eligible, cls := some (indexClass r w), mark := some (.ringIndex r w) } with hf
  have hmem (q : Port) (e' : InFlight) (he : e' ∈ (Machine.changePresented p f s).inFlight q) :
      e' ∈ s.inFlight q ∨ q = p ∧ e' = f e := by
    by_cases hqp : q = p
    · subst hqp
      rw [Machine.changePresented, Machine.changeEntry, State.inFlight_setInFlight_self] at he
      refine (mem_updateFirst he).imp_right fun ⟨y, hy, he⟩ => ⟨rfl, ?_⟩
      obtain rfl : e = y := Option.some.inj (hq.symm.trans hy)
      exact he
    · rw [Machine.changePresented, Machine.changeEntry, State.inFlight_setInFlight_ne _ _ hqp] at he
      exact .inl he
  refine trackingSound_iff.2 ⟨fun q => ?_, fun q e' he hel => ?_, fun r' b' hb' => ?_⟩
  · by_cases hqp : q = p
    · subst hqp
      change OnceWaiting ((s.setInFlight q _).inFlight q)
      rw [State.inFlight_setInFlight_self]
      exact .updateFirst hw fun _ h => by simp [InFlight.isHeld] at h
    · change OnceWaiting ((s.setInFlight p _).inFlight q)
      rw [State.inFlight_setInFlight_ne _ _ hqp]
      exact ho q
  · rcases hmem q e' he with he | ⟨-, rfl⟩
    · exact hn q e' he hel
    · intro r'
      refine ⟨fun hm => ?_, fun hm => ?_⟩ <;> obtain ⟨rfl, rfl⟩ := marks_ringIndex rfl hm <;> rfl
  · obtain ⟨hfit, hold⟩ := hbody r' b' hb'
    refine ⟨hfit, fun q e' he hel => ?_⟩
    rcases hmem q e' he with he | ⟨rfl, rfl⟩
    · exact hold q e' he hel
    · by_cases hr : r' = r
      · subst hr
        obtain rfl := Option.some.inj (hb.symm.trans hb')
        simp only [EntryFits, hph]
        refine ⟨fun hm => ?_, fun hm => ?_⟩ <;> obtain ⟨-, rfl⟩ := marks_ringIndex rfl hm
        · exact ⟨hown.symm, by rw [writesIndex_of hx]; simpa using hadv⟩
        · exact ⟨hown.symm, by rw [writesIndex_of hx]; simpa using hadv⟩
      · exact .of_unmarked fun w' => Bool.not_eq_true _ ▸ fun hm => hr (marks_ringIndex rfl hm).1

theorem Keeps.presentIndexWrite (hw : NoneWaiting s p) {e : InFlight} (hq : oldestQueued s p = some e) {r : RingId}
    {b : RingBody} (hb : (s.ring r).body = some b) {head tail : Index} (hph : b.phase = .tracking head tail)
    (w : IndexWord) (addr : Word) {x : WriteWord} (hx : singleWrite e.request.access = some x) :
    Keeps s (presentIndexWrite p r w b.desc head tail addr x s) := by
  unfold Machine.presentIndexWrite
  split
  · exact .forwardIndexWrite hw hq hb hph hx ‹_›
  · split
    · exact (Keeps.chargeViolation ..).trans ((Keeps.faultEntry ..).trans
        (.forwardPresented ((hw.of_ports (chargeViolation_ports ..)).faultEntry _ _) _ (by simp)))
    · exact (Keeps.chargeViolation ..).trans (.refusePresented _)
    · exact (Keeps.chargeViolation ..).trans (.refusePresented _)

theorem Keeps.presentIndex (hw : NoneWaiting s p) {e : InFlight} (hq : oldestQueued s p = some e) (r : RingId)
    (w : IndexWord) : Keeps s (presentIndex p r w e.request.access s) := by
  unfold Machine.presentIndex
  split
  · exact .forwardPresented hw _ (by simp)
  · rename_i b hb
    split
    · exact .stallPresented hw _
    · split
      · exact .presentIndexWrite hw hq hb ‹_› _ _ ‹_›
      · exact .forwardPresented hw _ (by simp)
    · exact .forwardPresented hw _ (by simp)
    · exact .forwardPresented hw _ (by simp)

/-! ### The other classes (R46 to R55, R113, R115, R122, R169) -/

theorem Keeps.presentCandidate (hw : NoneWaiting s p) (r : RingId) (d : Descriptor) (x : Access) :
    Keeps s (presentCandidate p r d x s) := by
  unfold Machine.presentCandidate
  split
  · exact .holdPresented hw ..
  · exact (Keeps.chargeViolation ..).trans (.refusePresented _)

theorem Keeps.presentDataViolation (hw : NoneWaiting s p) (r : RingId) (d : Descriptor) (k : ViolationKind)
    (x : Access) : Keeps s (presentDataViolation p r d k x s) := by
  unfold Machine.presentDataViolation
  split
  · exact (Keeps.chargeViolation ..).trans (.forwardPresented (hw.of_ports (by simp)) _ (by simp))
  · exact (Keeps.chargeViolation ..).trans (.refusePresented _)
  · split
    · exact .presentCandidate hw ..
    · exact (Keeps.chargeViolation ..).trans (.refusePresented _)

theorem Keeps.presentData (hw : NoneWaiting s p) (r : RingId) (x : Access) : Keeps s (presentData p r x s) := by
  unfold Machine.presentData
  split
  · exact .forwardPresented hw _ (by simp)
  · split
    · exact .stallPresented hw _
    · split
      · exact .forwardPresented hw _ (by simp)
      · exact .presentDataViolation hw ..
    · exact .forwardPresented hw _ (by simp)
    · exact .forwardPresented hw _ (by simp)

theorem Keeps.refuseWindowWrite (cls : AccessClass) (x : Access) : Keeps s (refuseWindowWrite p cls x s) := by
  unfold Machine.refuseWindowWrite
  dsimp only
  split
  · exact (Keeps.raiseDevice ..).trans (.refusePresented _)
  · exact .refusePresented _

theorem Keeps.presentWindow (hw : NoneWaiting s p) (cls : AccessClass) (x : Access) :
    Keeps s (presentWindow p cls x s) := by
  unfold Machine.presentWindow
  split
  · exact .forwardPresented hw _ (by simp)
  · split
    · exact .refusePresented _
    · split
      · exact .forwardPresented hw _ (by simp)
      · split
        · split
          · exact .forwardPresented hw _ (by simp)
          · exact .refuseWindowWrite ..
        · exact .refuseWindowWrite ..

theorem Keeps.presentNotice (hw : NoneWaiting s p) (cls : AccessClass) (x : Access) :
    Keeps s (presentNotice p cls x s) := by
  unfold Machine.presentNotice
  split
  · exact .forwardPresented hw _ (by simp)
  · split
    · split
      · split
        · exact .forwardPresented hw _ (by simp)
        · exact .refusePresented _
      · exact .refusePresented _
    · exact .refusePresented _

theorem Keeps.presentCrossing (hw : NoneWaiting s p) (x : Access) : Keeps s (presentCrossing p x s) := by
  unfold Machine.presentCrossing
  split
  · exact .stallPresented hw _
  · split
    · exact .refuseWindowWrite ..
    · split
      · exact .forwardPresented hw _ (by simp)
      · dsimp only
        split
        · exact (Keeps.chargeViolation ..).trans (.forwardPresented (hw.of_ports (by simp)) _ (by simp))
        · exact (Keeps.chargeViolation ..).trans (.refusePresented _)

theorem noneWaiting_of_mayPresent (h : mayPresent s p = true) : NoneWaiting s p := by
  intro e he
  simp only [mayPresent, Bool.and_eq_true, List.all_eq_true] at h
  simpa [InFlight.isWaiting] using h.2 e he

theorem Keeps.presentClassified (hw : NoneWaiting s p) {e : InFlight} (hq : oldestQueued s p = some e) :
    Keeps s (presentClassified p e.request.access s) := by
  unfold Machine.presentClassified
  split
  · exact .forwardPresented hw _ (by simp)
  · exact .presentData hw ..
  · exact .presentIndex hw hq ..
  · exact .presentIndex hw hq ..
  · exact .presentWindow hw ..
  · exact .presentWindow hw ..
  · exact .presentNotice hw ..
  · exact .presentNotice hw ..
  · exact .presentNotice hw ..
  · exact .presentCrossing hw _

theorem Keeps.execPresentation (h : execPresentation p s = .next t) : Keeps s t := by
  obtain rfl := Host.Outcome.next.inj h
  unfold present
  split
  · rename_i hm
    split
    · exact .refl s
    · split
      · exact .refusePresented _
      · exact .presentClassified (noneWaiting_of_mayPresent hm) ‹_›
  · exact .refl s

end Sys2Proof.Machine
end

section
/-! SUPPORT. The reset lines (R176 to R179) and the time base (R67, R77) keep the invariants; so every command does,
and every step. -/

namespace Sys2Proof.Machine

variable {s t : State} {p : Port}

/-! ### RESET (R176) -/

/-- What RESET leaves meets every invariant of the ring records. -/
theorem Keeps.assertReset : Keeps s (assertReset s) where
  notices _ := (by decide : NoticesAgree State.reset)
  seeding _ := (by decide : SeedingWaits State.reset)
  applied _ := (by decide : AppliedTracked State.reset)
  regions _ := (by decide : RegionsSound State.reset)
  tracking _ := (by decide : TrackingSound State.reset)

theorem Keeps.execResetAssert (h : execResetAssert s = .next t) : Keeps s t := by
  obtain rfl := Host.Outcome.next.inj h
  exact .assertReset

/-- At the release of RESET the window alone is reserved, so its move meets nothing (R20, R176). -/
theorem RegionsSound.released (h : RegionsSound s) (hl : s.resetLine = true) (line : t.resetLine = false)
    (rings : t.rings = s.rings) (units : t.units = s.units) : RegionsSound t := by
  obtain ⟨hf, -, hr⟩ := h
  obtain ⟨hrings, hua, hub, -⟩ := hr hl
  have hbody (r : RingId) : (t.ring r).body = none := by rw [State.ring_congr rings, hrings]
  have hunit (p : Port) : t.units.get p = none := by cases p <;> simp [units, PerPort.get, hua, hub]
  have hown (o : Owner) : o ≠ .window → reservedBy t o = [] := by
    rcases o with r | _ | p <;> simp [reservedBy, ringReserved, unitReserved, hbody, hunit]
  refine ⟨fun r b hb => ?_, reservations_apart_iff.2 ⟨fun o => ?_, fun o o' hne g hg h hh => ?_⟩, ?_⟩
  · rw [hbody] at hb
    cases hb
  · by_cases ho : o = .window
    · subst ho
      exact List.pairwise_singleton ..
    · rw [hown o ho]
      exact .nil
  · by_cases ho : o = .window
    · rw [hown o' fun h => hne (ho.trans h.symm)] at hh
      cases hh
    · rw [hown o ho] at hg
      cases hg
  · simp [line]

theorem Keeps.execResetRelease {ctlBase : BitVec 21} {mgmtSel : Port}
    (h : execResetRelease ctlBase mgmtSel s = .next t) : Keeps s t := by
  obtain rfl := Host.Outcome.next.inj h
  unfold releaseReset
  split
  · rename_i hl
    have hstrap : Keeps s
        { s with resetLine := false, ctlBase := ctlBase, mgmt := mgmtSel, order := powerOnOrder } :=
      { notices := id
        seeding := id
        applied := id
        regions := fun h => h.released hl rfl rfl rfl
        tracking := id }
    exact hstrap.trans (.presentEngine _)
  · exact .refl s

/-! ### The assertion of a port reset line (R177, R178) -/

theorem Keeps.setPortReset (level : Bool) : Keeps s (setPortReset p level s) :=
  .of_same (by simp [Machine.setPortReset])

theorem Keeps.discardRequests : Keeps s (discardRequests p s) := by
  refine (Keeps.setInFlight (.of_sublist (List.nil_sublist _))).trans
    ((Keeps.setOutstanding (.map _ fun o => .inl (OutEntry.applied?_of_origin ?_))).trans (.setHold p none))
  unfold OutEntry.discardPort
  split
  · split <;> rfl
  · rfl

theorem Keeps.faultTracking : Keeps s (faultTracking s) := by
  have hfold (l : List RingId) (u : State) :
      Keeps u (l.foldl (fun t r => Machine.faultEntry r .peerReset t) u) := by
    induction l generalizing u with
    | nil => exact .refl u
    | cons r l ih => exact (Keeps.faultEntry ..).trans (ih _)
  have hcount : Keeps s { s with freeCount := s.freeCount + 1 } := .of_same (by simp)
  exact hcount.trans (hfold ..)

/-- The body of a ring under a port reset: a seeding record takes the flag (R19). -/
def RingBody.flagPeerReset (b : RingBody) : RingBody :=
  match b.phase with
  | .seeding rec => b.withPhase (.seeding { rec with peerReset := true })
  | _ => b

theorem RingEntry.flagPeerReset_eq (e : RingEntry) :
    e.flagPeerReset = { e with body := e.body.map RingBody.flagPeerReset } := by
  unfold RingEntry.flagPeerReset RingBody.flagPeerReset
  rcases e with ⟨_ | ⟨_, _, _, ph⟩, _, _, _⟩
  · rfl
  · cases ph <;> rfl

/-- What the flag leaves of a body: its descriptor, and its phase but for the flag. -/
theorem RingBody.flagPeerReset_cases (b : RingBody) : b.flagPeerReset = b ∨
    ∃ rec, b.phase = .seeding rec ∧ b.flagPeerReset = b.withPhase (.seeding { rec with peerReset := true }) := by
  unfold RingBody.flagPeerReset
  split
  · exact .inr ⟨_, ‹_›, rfl⟩
  · exact .inl rfl

theorem RingEntry.isSeeding_flagPeerReset (e : RingEntry) : e.flagPeerReset.isSeeding = e.isSeeding := by
  rw [flagPeerReset_eq]
  rcases hb : e.body with _ | b
  · simp [RingEntry.isSeeding, RingEntry.phase?, hb]
  · rcases b.flagPeerReset_cases with h | ⟨rec, hph, h⟩ <;>
      simp [RingEntry.isSeeding, RingEntry.phase?, RingBody.withPhase, *]

theorem RingEntry.isTracking_flagPeerReset (e : RingEntry) : e.flagPeerReset.isTracking = e.isTracking := by
  rw [flagPeerReset_eq]
  rcases hb : e.body with _ | b
  · simp [RingEntry.isTracking, RingEntry.phase?, hb]
  · rcases b.flagPeerReset_cases with h | ⟨rec, hph, h⟩ <;>
      simp [RingEntry.isTracking, RingEntry.phase?, RingBody.withPhase, *]

theorem Keeps.flagPeerReset : Keeps s (s.mapRings RingEntry.flagPeerReset) := by
  have hring (r : RingId) : (s.mapRings RingEntry.flagPeerReset).ring r =
      { s.ring r with body := (s.ring r).body.map RingBody.flagPeerReset } := by
    rw [State.ring_mapRings, RingEntry.flagPeerReset_eq]
  have hdesc (b : RingBody) : b.flagPeerReset.desc = b.desc := by
    rcases b.flagPeerReset_cases with h | ⟨rec, -, h⟩ <;> simp [h, RingBody.withPhase]
  exact
    { notices := fun h => bothPorts_iff.2 fun p => by
        simpa [hring, hdesc] using bothPorts_iff.1 h p
      seeding := fun h => h.mono
        (fun r => by rw [State.ring_mapRings, RingEntry.isSeeding_flagPeerReset]; exact id) fun _ _ _ => rfl
      applied := fun h => h.mono (.of_eq rfl)
        fun r => by rw [State.ring_mapRings, RingEntry.isTracking_flagPeerReset]; exact id
      regions := fun h => by
        refine h.mono_bodies (fun r b' hb => ?_) (by simp)
        rw [hring] at hb
        obtain ⟨b, hbs, rfl⟩ := Option.map_eq_some_iff.1 hb
        exact ⟨b, hbs, by rw [hdesc], hdesc b ▸ id⟩
      tracking := fun h => by
        obtain ⟨hw, hc, hbody⟩ := trackingSound_iff.1 h
        refine trackingSound_iff.2 ⟨hw, hc, fun r b' hb => ?_⟩
        rw [hring] at hb
        obtain ⟨b, hbs, rfl⟩ := Option.map_eq_some_iff.1 hb
        obtain ⟨hfit, hent⟩ := hbody r b hbs
        rcases b.flagPeerReset_cases with h | ⟨rec, hph, h⟩ <;> rw [h]
        · exact ⟨hfit, hent⟩
        · refine ⟨⟨hfit.1, by simp [RingBody.withPhase]⟩, fun p e he hel => ?_⟩
          simpa only [EntryFits, hph, RingBody.withPhase] using hent p e he hel }

theorem Keeps.resetUnit (p : Port) : Keeps s (resetUnit p s) := by
  have hoff : Keeps s (Machine.abandonJob p (Machine.unitOff p s)) := (Keeps.unitOff p).trans (.abandonJob p)
  unfold Machine.resetUnit
  dsimp only
  split
  · exact hoff
  · exact hoff.trans ((Keeps.settleWait (by simp) ..).trans (.settleWait (by simp) ..))

/-- Where a ring goes whose seeding is abandoned: to DEFINED, or to FAULTED with the record set aside (R45). -/
def SeedPurpose.abandoned : SeedPurpose → RingPhase
  | .arm => .defined
  | .clearFault f => .faulted f.asPeerReset none none

theorem SeedPurpose.abandoned_ne_seeding (u : SeedPurpose) (rec : SeedingRecord) : u.abandoned ≠ .seeding rec := by
  cases u <;> simp [abandoned]

theorem SeedPurpose.abandoned_ne_tracking (u : SeedPurpose) (head tail : Index) :
    u.abandoned ≠ .tracking head tail := by
  cases u <;> simp [abandoned]

theorem isSeeding_of_seedingRing {r : RingId} (h : seedingRing s = some r) : (s.ring r).isSeeding = true :=
  (List.find?_eq_some_iff_append.1 h).1

/-- What abandoning a seeding can do (R45). -/
theorem abandonSeeding_cases (s : State) : abandonSeeding s = s ∧ seedingRing s = none ∨
    ∃ r b rec, seedingRing s = some r ∧ (s.ring r).body = some b ∧ b.phase = .seeding rec ∧
      abandonSeeding s = unstallAll (s.setBody r (b.withPhase rec.purpose.abandoned)) := by
  unfold abandonSeeding
  split
  · exact .inl ⟨rfl, ‹_›⟩
  · rename_i r hr
    have hs : (s.ring r).isSeeding = true := isSeeding_of_seedingRing hr
    rcases hb : (s.ring r).body with _ | b
    · simp [RingEntry.isSeeding_of_free hb] at hs
    · obtain ⟨rec, hph⟩ := (RingEntry.isSeeding_iff hb).1 hs
      refine .inr ⟨r, b, rec, hr, hb, hph, ?_⟩
      simp only [hph]
      rfl

theorem Keeps.abandonSeeding : Keeps s (abandonSeeding s) := by
  rcases abandonSeeding_cases s with ⟨h, -⟩ | ⟨r, b, rec, -, hb, hph, h⟩ <;> rw [h]
  · exact .refl s
  · refine Keeps.trans (.withPhase hb (by simp [SeedPurpose.abandoned_ne_seeding]) (by simp [hph])
      (by simp [SeedPurpose.abandoned_ne_tracking]) fun p e _ _ hfit => ?_) .unstallAll
    simp only [EntryFits, hph] at hfit
    cases hpu : rec.purpose with
    | arm => trivial
    | clearFault f =>
      obtain ⟨hhead, htail⟩ := hfit.2 f hpu
      exact ⟨fun h => ⟨hhead h, rfl⟩, fun h => ⟨htail h, rfl⟩⟩

theorem Keeps.abandonUnitWait : Keeps s (abandonUnitWait s) := by
  unfold Machine.abandonUnitWait
  split
  · exact (Keeps.unitOff _).trans (.abandonJob _)
  · refine .setUnit (.inr ?_)
    rw [Option.map_map]
    congr 1
    funext u
    simp only [Function.comp_apply, NoticeUnit.stopClosing]
    split <;> rfl
  · exact .refl s

/-- After the seeding is abandoned no ring is SEEDING (R13, R45). -/
theorem abandonSeeding_none (h : SeedingWaits s) (r : RingId) : ((abandonSeeding s).ring r).isSeeding = false := by
  rcases abandonSeeding_cases s with ⟨h', hn⟩ | ⟨r₀, b, rec, hr₀, hb, hph, h'⟩ <;> rw [h']
  · simpa using List.find?_eq_none.1 hn r (by simp)
  · rw [unstallAll_ring]
    by_cases hr : r = r₀
    · subst hr
      have hb' : ((s.setBody r (b.withPhase rec.purpose.abandoned)).ring r).body =
          some (b.withPhase rec.purpose.abandoned) := by simp
      rw [← Bool.not_eq_true, RingEntry.isSeeding_iff hb']
      simp [RingBody.withPhase, SeedPurpose.abandoned_ne_seeding]
    · rw [State.ring_setBody_ne _ _ hr, ← Bool.not_eq_true]
      intro hs
      have h₁ := (h r hs).symm.trans (h r₀ ((RingEntry.isSeeding_iff hb).2 ⟨rec, hph⟩))
      simp [hr] at h₁

@[simp] theorem abandonUnitWait_rings (s : State) : (abandonUnitWait s).rings = s.rings := by
  unfold abandonUnitWait
  split <;> simp

@[simp] theorem reinitEngine_rings (s : State) : (reinitEngine s).rings = s.rings := by
  unfold reinitEngine
  split <;> simp

@[simp] theorem reinitEngine_queues (s : State) : (reinitEngine s).queues = s.queues := by
  unfold reinitEngine
  split <;> simp

@[simp] theorem reinitEngine_device (s : State) : (reinitEngine s).device = s.device := by
  unfold reinitEngine
  split <;> simp

@[simp] theorem reinitEngine_ports (s : State) : (reinitEngine s).ports = s.ports := by
  unfold reinitEngine
  split <;> simp

@[simp] theorem reinitEngine_units (s : State) : (reinitEngine s).units = s.units := by
  unfold reinitEngine
  split <;> simp

@[simp] theorem reinitEngine_ctlBase (s : State) : (reinitEngine s).ctlBase = s.ctlBase := by
  unfold reinitEngine
  split <;> simp

@[simp] theorem reinitEngine_resetLine (s : State) : (reinitEngine s).resetLine = s.resetLine := by
  unfold reinitEngine
  split <;> simp

@[simp] theorem reinitEngine_state (s : State) : (reinitEngine s).engine.state = .init := by
  unfold reinitEngine
  split
  · assumption
  · simp [presentEngine, Engine.powerOn]

@[simp] theorem reinitEngine_ring (s : State) (r : RingId) : (reinitEngine s).ring r = s.ring r :=
  State.ring_congr (reinitEngine_rings s) r

@[simp] theorem reinitEngine_inFlight (s : State) (p : Port) : (reinitEngine s).inFlight p = s.inFlight p := by
  simp [State.inFlight]

theorem reinitEngine_outstanding (s : State) : (reinitEngine s).outstanding = s.outstanding ∨
    (reinitEngine s).outstanding = s.outstanding.map OutEntry.discardEngine := by
  unfold reinitEngine
  split <;> simp

theorem OutEntry.applied?_discardEngine (o : OutEntry) : o.discardEngine.applied? = o.applied? := by
  refine applied?_of_origin ?_
  unfold OutEntry.discardEngine
  split <;> rfl

theorem AppliedTracked.reinitEngine (h : AppliedTracked s) : AppliedTracked (Machine.reinitEngine s) := by
  refine h.mono ?_ (by simp)
  rcases reinitEngine_outstanding s with ho | ho <;> rw [ho]
  · exact .of_eq rfl
  · exact .map _ fun o => .inl o.applied?_discardEngine

/-- The managing port's reset ends the engine's wait with the seeding it waits for (R45, R135). -/
theorem Keeps.managingReset : Keeps s (Machine.reinitEngine (Machine.abandonUnitWait (Machine.abandonSeeding s))) := by
  have hwait : Keeps s (Machine.abandonUnitWait (Machine.abandonSeeding s)) :=
    Keeps.abandonSeeding.trans .abandonUnitWait
  exact
    { notices := fun h => (hwait.notices h).congr (by simp)
      seeding := fun h => .of_none fun r => by
        rw [State.ring_congr (reinitEngine_rings _), State.ring_congr (abandonUnitWait_rings _)]
        exact abandonSeeding_none h r
      applied := fun h => (hwait.applied h).reinitEngine
      regions := fun h => (hwait.regions h).mono (fun r b hb => ⟨b, by simpa using hb, rfl, id⟩)
        (fun p => .inr (by simp)) (by simp) (by simp) (by simp)
      tracking := fun h => (hwait.tracking h).congr (by simp) (by simp) }

theorem Keeps.execPortResetAssert (h : execPortResetAssert p s = .next t) : Keeps s t := by
  obtain rfl := Host.Outcome.next.inj h
  unfold assertPortReset
  split
  · exact .refl s
  · split
    · exact .setPortReset _
    · dsimp only
      have hdown : Keeps s (Machine.discardRequests p (Machine.setPortReset p true s)) :=
        (Keeps.setPortReset true).trans .discardRequests
      have hall := hdown.trans (Keeps.faultTracking.trans (Keeps.flagPeerReset.trans
        ((Keeps.raiseDevice (other p) .peerReset).trans ((Keeps.clearPortNotices p).trans (Keeps.resetUnit p)))))
      split
      · exact hall.trans .managingReset
      · exact hall.trans .drainTestSeeding

theorem Keeps.execPortResetDeassert (h : execPortResetDeassert p s = .next t) : Keeps s t := by
  obtain rfl := Host.Outcome.next.inj h
  exact .setPortReset _

/-! ### The time base (R67, R77) -/

theorem Keeps.expire : Keeps s (expire p s) := by
  unfold Machine.expire
  split
  · exact .refl s
  · split
    · exact (Keeps.refuseHeld p).trans ((Keeps.countViolation ..).trans (.raiseRing ..))
    · exact .refl s

theorem Keeps.stepTime : Keeps s (stepTime s) := by
  unfold Machine.stepTime
  split
  · exact .refl s
  · have htime : Keeps s { s with time := s.time + 1 } := .of_same (by simp)
    exact htime.trans (Keeps.expire.trans .expire)

theorem Keeps.execTimeBaseStep (h : execTimeBaseStep s = .next t) : Keeps s t := by
  obtain rfl := Host.Outcome.next.inj h
  exact .stepTime

theorem Keeps.execHoldExpiry (h : execHoldExpiry p s = .next t) : Keeps s t := by
  obtain rfl := Host.Outcome.next.inj h
  split
  · exact .stepTime
  · exact .refl s

/-! ### Every command and every step -/

theorem exec_keeps {c : Instr} (h : exec c s = .next t) : Keeps s t := by
  cases c with
  | resetAssert => exact .execResetAssert h
  | resetRelease => exact .execResetRelease h
  | portResetAssert => exact .execPortResetAssert h
  | portResetDeassert => exact .execPortResetDeassert h
  | acceptance => exact .execAcceptance h
  | presentation => exact .execPresentation h
  | grant => exact .execGrant h
  | memoryResponse => exact .execMemoryResponse h
  | discardedResponse => exact .execDiscardedResponse h
  | responseDeparture => exact .execResponseDeparture h
  | seedResponse => exact .execSeedResponse h
  | fetchResponse => exact .execFetchResponse h
  | reportBurstResponse => exact .execReportBurstResponse h
  | reportTailResponse => exact .execReportTailResponse h
  | initialisationBurstResponse status => exact .execInitialisationBurstResponse status h
  | haltBurstResponse status => exact .execHaltBurstResponse status h
  | restartStatusWriteResponse status => exact .execRestartStatusWriteResponse status h
  | badCommand => exact .execBadCommand h
  | defineRing => exact .execDefineRing h
  | releaseRing => exact .execReleaseRing h
  | armRing => exact .execArmRing h
  | disarmRing => exact .execDisarmRing h
  | clearFault => exact .execClearFault h
  | setMarks => exact .execSetMarks h
  | setGuard => exact .execSetGuard h
  | setNotify => exact .execSetNotify h
  | queryRing => exact .execQueryRing h
  | resetCounts => exact .execResetCounts h
  | setupNotice => exact .execSetupNotice h
  | noticeOff => exact .execNoticeOff h
  | resetTable => exact .execResetTable h
  | setupJob => exact .execSetupJob h
  | setupWriteResponse => exact .execSetupWriteResponse h
  | recordTaking => exact .execRecordTaking h
  | recordBurstResponse => exact .execRecordBurstResponse h
  | noticeHeadWriteResponse => exact .execNoticeHeadWriteResponse h
  | timeBaseStep => exact .execTimeBaseStep h
  | holdExpiry => exact .execHoldExpiry h

theorem step_keeps (h : step s = .next t) : Keeps s t := by
  rcases step_cases h with ⟨-, rfl⟩ | ⟨c, rest, -, hc⟩
  · exact .refl _
  · have hrest : Keeps s { s with pending := rest } := .of_same (by simp)
    exact hrest.trans (exec_keeps hc)

/-- Settles O54: every command keeps the agreement of queues and pending sets (`exec_keeps`). -/
theorem stepKeepsNotices : Obligations.StepKeepsNotices := fun _ _ hs h => (step_keeps h).notices hs

/-- Settles O55: every command keeps both clauses (`exec_keeps`). -/
theorem stepKeepsRingRecords : Obligations.StepKeepsRingRecords :=
  ⟨fun _ _ hs h => (step_keeps h).seeding hs, fun _ _ hs h => (step_keeps h).applied hs⟩

/-- Settles O56: every command keeps the fills within N (`exec_keeps`). -/
theorem stepKeepsTracking : Obligations.StepKeepsTracking := fun _ _ hs h => (step_keeps h).tracking hs

/-- Settles O60: every command keeps descriptors well formed and the reserved regions apart (`exec_keeps`). -/
theorem stepKeepsRegions : Obligations.StepKeepsRegions := fun _ _ hs h => (step_keeps h).regions hs

end Sys2Proof.Machine
end

section
/-! The machine after reset and at the reset lines' changes (R176, R179), the region map (R20), the occupied slots (R2),
and the raising of a ring kind (R90, R93) with the charging of a violation (R22, R23). -/

namespace Sys2Proof.Machine

variable {s : State}

/-! ### Reset (R176, R179) -/

/-- Settles O52: after reset every list, record and set is empty, and each invariant is a finite check. -/
theorem resetMeetsInvariants : Obligations.ResetMeetsInvariants :=
  ⟨by decide, by decide, by decide, by decide, by decide, by decide, by decide, by decide, by decide, by decide,
    by decide, by decide⟩

theorem assertReset_ring (s : State) (r : RingId) :
    (assertReset s).ring r = { body := none, count := 0, last := none, pend := ⟨0, 0⟩ } :=
  Vector.getElem_replicate r.isLt

theorem assertReset_inFlight (s : State) (p : Port) : (assertReset s).inFlight p = [] := by
  cases p <;> rfl

/-- The window base as a number: the strap's 21 bits above 11 zeros (R120). -/
theorem windowBase_eq (s : State) : windowBase s = BitVec.ofNat 32 (2048 * s.ctlBase.toNat) := by
  apply BitVec.eq_of_toNat_eq
  rw [windowBase, BitVec.toNat_append, BitVec.toNat_ofNat, Nat.shiftLeft_eq]
  have := s.ctlBase.isLt
  simp
  omega

/-- Settles O3, line by line: RESET asserted, RESET released, a port's line released. -/
theorem resetLinesAct : Obligations.ResetLinesAct := by
  refine ⟨fun s => ⟨assertReset s, rfl, rfl, rfl, rfl, assertReset_ring s, rfl, rfl, rfl, rfl, rfl, rfl, rfl,
    assertReset_inFlight s, rfl, rfl⟩, fun ctlBase mgmtSel s hl => ?_, fun _ _ => rfl⟩
  have hbase := windowBase_eq
    { s with resetLine := false, ctlBase := ctlBase, mgmt := mgmtSel, order := powerOnOrder }
  simp only [exec, execResetRelease, releaseReset, hl, if_true, presentEngine, State.setEngine, initBurst, hbase,
    partWrite_eq_fullWrite]
  rfl

/-! ### The region map (R20) -/

theorem ringMap_sublist (s : State) (r : RingId) : ((ringMap s r).map Prod.snd).Sublist (ringReserved s r) := by
  unfold ringMap ringReserved
  rcases (s.ring r).body with _ | b
  · exact .slnil
  · dsimp only
    split
    · exact .refl _
    · exact List.nil_sublist _

theorem unitMap_regions (s : State) (p : Port) : (unitMap s p).map Prod.snd = unitReserved s p := by
  unfold unitMap unitReserved
  cases s.units.get p <;> rfl

/-- The map's regions are reserved regions, in the order of the reservations (R20). -/
theorem regionMap_sublist (s : State) : ((regionMap s).map Prod.snd).Sublist (reservations s).flatten := by
  have hwindow : ((if s.windowMapped then [(RegionName.window, windowRegion s)] else []).map Prod.snd).Sublist
      [windowRegion s] := by
    split
    · exact .refl _
    · exact List.nil_sublist _
  have hrings : ((ringIds.flatMap (ringMap s)).map Prod.snd).Sublist (ringIds.map (ringReserved s)).flatten := by
    rw [List.map_flatMap, ← List.flatMap_def]
    induction ringIds with
    | nil => exact .slnil
    | cons r l ih => exact (ringMap_sublist s r).append ih
  simpa [regionMap, reservations, unitMap_regions] using
    hrings.append (hwindow.append (.refl (unitReserved s .a ++ unitReserved s .b)))

/-- Regions that both hold a byte overlap (R21). -/
theorem overlaps_of_contains {g h : Region} {a : Nat} (hg : g.contains a = true) (hh : h.contains a = true) :
    g.overlaps h = true := by
  simp only [Region.contains, Region.overlaps, Bool.and_eq_true, decide_eq_true_eq] at *
  omega

/-- Settles O16: two regions of the map that both hold the byte would be two reserved regions that overlap. -/
theorem oneRegionPerAddress : Obligations.OneRegionPerAddress := by
  intro s a hsound x hx y hy hxa hya
  have hapart : (regionMap s).Pairwise fun x y => x.2.overlaps y.2 = false :=
    List.pairwise_map.1 (hsound.2.1.sublist (regionMap_sublist s))
  have hsymm : Std.Symm fun x y : RegionName × Region => x.2.overlaps y.2 = false :=
    ⟨fun x y h => overlaps_comm x.2 y.2 ▸ h⟩
  by_contra hne
  have := hapart.forall hx hy hne
  simp [overlaps_of_contains hxa hya] at this

/-! ### Occupied slots (R2) -/

/-- The `i`-th index from `t` names slot `k` of a ring of `n` slots exactly when `k` lies `i` slots on from `t`; `n`
divides 65,536, so the index's wrap moves no slot. -/
theorem slot_eq_iff {n t k i : Nat} (hn : n ∣ 65536) (ht : t < 65536) (hk : k < n) (hi : i < n) :
    (t + i) % n = k ↔ (k + 65536 - t) % n = i := by
  have hwrap : i + 65536 ≡ i [MOD n] := by
    simpa using (Nat.modEq_zero_iff_dvd.2 hn).add_left i
  have hleft : t + i + (65536 - t) = i + 65536 := by omega
  have hright : k + (65536 - t) = k + 65536 - t := by omega
  calc (t + i) % n = k ↔ t + i ≡ k [MOD n] := by rw [Nat.ModEq, Nat.mod_eq_of_lt hk]
    _ ↔ t + i + (65536 - t) ≡ k + (65536 - t) [MOD n] := ⟨(·.add_right _), (·.add_right_cancel' _)⟩
    _ ↔ k + 65536 - t ≡ i [MOD n] := by
      rw [hleft, hright]
      exact ⟨fun h => h.symm.trans hwrap, fun h => hwrap.trans h.symm⟩
    _ ↔ (k + 65536 - t) % n = i := by rw [Nat.ModEq, Nat.mod_eq_of_lt hi]

theorem slotIndex_add {n : Nat} (hn : n ∣ 65536) (t : Index) (i : Nat) :
    slotIndex (t + BitVec.ofNat 16 i) n = (t.toNat + i) % n := by
  rw [slotIndex, BitVec.toNat_add, BitVec.toNat_ofNat, Nat.add_mod_mod, Nat.mod_mod_of_dvd _ hn]

/-- Settles O17: the slots named by the fill's indices from the tail are those less than the fill from it. -/
theorem occupiedSlotsAreNamed : Obligations.OccupiedSlotsAreNamed := by
  intro e k head tail _ he hk hfill
  have hn : 2 ^ e ∣ 65536 := pow_dvd_pow 2 (by omega : e ≤ 16)
  have hslot (i : Nat) (hi : i < distance head tail) :
      slotIndex (tail + BitVec.ofNat 16 i) (2 ^ e) = k ↔ (k + 65536 - tail.toNat) % 2 ^ e = i := by
    rw [slotIndex_add hn, slot_eq_iff hn tail.isLt hk (hi.trans_le hfill)]
  rw [slotOccupied, decide_eq_true_iff]
  constructor
  · intro h
    exact ⟨_, h, (hslot _ h).2 rfl⟩
  · rintro ⟨i, hi, hik⟩
    rwa [(hslot i hi).1 hik]

/-! ### Kinds and violations (R22, R23, R90, R93) -/

theorem State.setRing_self (s : State) (r : RingId) : s.setRing r (s.ring r) = s := by
  simp [State.setRing, State.ring]

theorem raise_ring_eq (r : RingId) (p : Port) (k : KindSet) (s : State) : raise (.ring r) p k s =
    { s with
      rings := s.rings.set r { s.ring r with pend := (s.ring r).pend.set p ((s.ring r).pend.get p ||| k) }
      queues := if (s.ring r).pend.get p = 0 then s.queues.set p (s.queues.get p ++ [.ring r]) else s.queues } := by
  by_cases h : (s.ring r).pend.get p = 0
  · simp only [raise, pendingSet, setPendingSet, h, if_true]
    rfl
  · simp only [raise, pendingSet, setPendingSet, h, if_false]
    rfl

/-- A ring that is not FREE is raised toward its notify port when its mask has the kind, and not else (R90, R93). -/
theorem raiseRing_setRing {e : RingEntry} {b : RingBody} (hb : e.body = some b) (r : RingId) (k : RingKind)
    (s : State) : raiseRing r k (s.setRing r e) =
      if b.desc.mask.getLsbD (kindBit k) then
        { s with
          rings := s.rings.set r { e with
            pend := e.pend.set b.desc.notify (e.pend.get b.desc.notify ||| BitVec.ofNat 6 (2 ^ kindBit k)) }
          queues :=
            if e.pend.get b.desc.notify = 0 then
              s.queues.set b.desc.notify (s.queues.get b.desc.notify ++ [.ring r])
            else s.queues }
      else { s with rings := s.rings.set r e } := by
  have hring : (s.setRing r e).ring r = e := by simp
  simp only [raiseRing, hring, hb, mask_excludes]
  cases b.desc.mask.getLsbD (kindBit k) with
  | true => simp [raise_ring_eq, hring, RingKind.bit_eq, ← hb]
  | false => rfl

/-- Settles O18: `raiseRing_setRing` for the ring's own entry, and for the counted one (`countViolation_eq`). -/
theorem violationCharged : Obligations.ViolationCharged := by
  intro s r b hb
  refine ⟨fun k => ?_, fun k p addr => ?_⟩
  · have h := raiseRing_setRing hb r k s
    rwa [State.setRing_self] at h
  · rw [chargeViolation, countViolation_eq]
    have hbody : (countedEntry s r k p addr).body = some b := hb
    exact raiseRing_setRing hbody r .violation s

end Sys2Proof.Machine
end

section
/-! The commands that define a ring, clear it, or return it to DEFINED (R140 to R143, R146, R152, R159): each as the
state it leaves. -/

namespace Sys2Proof.Machine

variable {s t : State} {c : CurrentCommand} {r : RingId}

/-! ### Executing and reporting -/

/-- A ring command in a state it is allowed in performs its act on the ring named (R137, R138). -/
theorem Executes.ringCommand {code : Nat} (h : Executes s code r.val c) {allowed : RingEntry → Bool}
    (ha : allowed (s.ring r) = true) (act : RingId → State → State) :
    Machine.ringCommand allowed act c.words s = act r s := by
  obtain ⟨-, -, hop, -⟩ := h.facts
  simp only [Machine.ringCommand, ringOperand_of hop, ha, if_true]

theorem Executes.performing {code operand : Nat} (h : Executes s code operand c) {k : CommandCode}
    (hk : commandOfCode (BitVec.ofNat 8 code) = some k) (act : SlotWords → State → State) :
    Machine.performing k act s = act c.words s := by
  obtain ⟨hex, hcode, -⟩ := h.facts
  exact performing_of act hex (hcode.trans hk)

/-- The report of a command whose effect leaves the engine and the window alone (R129, R131). -/
theorem Executes.finish {code operand : Nat} (h : Executes s code operand c) (t : State) (status : CommandStatus)
    (engine : t.engine = s.engine) (base : t.ctlBase = s.ctlBase) :
    Machine.finish status t = { t with engine := reporting s c status c.words.params } := by
  obtain ⟨-, hcur, -⟩ := h
  rw [finish_of_current (engine ▸ hcur), reporting_congr engine base]

/-! ### DEFINE_RING and RELEASE_RING (R140 to R143) -/

/-- A ring's kinds are forgotten: its records in flight return nothing, and it leaves both queues (R99). -/
theorem forgetNotices_eq (r : RingId) (s : State) : forgetNotices r s =
    { forgetRecords (· == .ring r) s with
      queues := ⟨s.queues.a.filter (· != .ring r), s.queues.b.filter (· != .ring r)⟩ } := by
  rw [forgetNotices, clearedFor_eq]
  rfl

theorem execDefineRing_of_none (h : Executes s 1 r.val c) (hs : stateNumber (s.ring r) ∈ [0, 1])
    (hp : parseDescriptor c.words.params = none) : exec .defineRing s = .next (finish .badField s) := by
  obtain ⟨hallowed, -⟩ := allowed_of_stateNumber (s.ring r)
  rw [exec, execDefineRing, h.performing rfl, h.ringCommand (hallowed hs), hp]

theorem execDefineRing_of_some {d : Descriptor} (h : Executes s 1 r.val c) (hs : stateNumber (s.ring r) ∈ [0, 1])
    (hp : parseDescriptor c.words.params = some d) : exec .defineRing s =
      .next (if descriptorApart s r d then finish .ok (startAfresh r d s) else finish .overlap s) := by
  obtain ⟨hallowed, -⟩ := allowed_of_stateNumber (s.ring r)
  rw [exec, execDefineRing, h.performing rfl, h.ringCommand (hallowed hs), hp]

/-- Settles O33: the parameters are read as the descriptor they write out, or not at all (`parseDescriptor_eq_some`),
and its regions are compared with those reserved (`descriptorApart_iff`). -/
theorem defineRingResult : Obligations.DefineRingResult := by
  intro s c r h hs
  refine ⟨fun hnone => ?_, fun d hd hw => ?_⟩
  · have hp : parseDescriptor c.words.params = none :=
      Option.eq_none_iff_forall_ne_some.2 fun d hd => by
        obtain ⟨hf, hw⟩ := (parseDescriptor_eq_some _ d).1 hd
        exact hnone d hf hw.symm
    rw [execDefineRing_of_none h hs hp, h.finish s .badField rfl rfl]
  · have hp : parseDescriptor c.words.params = some d := (parseDescriptor_eq_some _ d).2 ⟨hd, hw.symm⟩
    rw [execDefineRing_of_some h hs hp]
    refine ⟨fun hlies => ?_, fun hlies => ?_⟩
    · rw [if_neg (mt (descriptorApart_iff s r d).1 hlies), h.finish s .overlap rfl rfl]
    · rw [if_pos ((descriptorApart_iff s r d).2 hlies),
        h.finish (startAfresh r d s) .ok (by simp [startAfresh]) (by simp [startAfresh]), startAfresh, forgetNotices_eq]
      rfl

/-! ### DISARM_RING (R146) -/

theorem heldOn_some {p : Port} {h : HoldSlot} (hh : heldOn s r = some (p, h)) :
    releaseHeldOn r s = releaseHeld p s := by
  simp only [releaseHeldOn, hh]

/-- The ring back in DEFINED, with the applied marks of its outstanding writes gone. -/
theorem dropAppliedMarks_setBody_eq (b : RingBody) :
    dropAppliedMarks r (s.setBody r (b.withPhase .defined)) =
      { s with
        rings := s.rings.set r (bodyEntry s r { b with phase := .defined })
        outstanding := s.outstanding.map fun o =>
          match o.origin with
          | .port p n (some r') true => if r' = r then { o with origin := .port p n (some r) false } else o
          | _ => o } := by
  rw [dropAppliedMarks, dropApplied_eq]
  rfl

theorem execDisarmRing_eq {b : RingBody} {u : State} (h : Executes s 4 r.val c) (hb : (s.ring r).body = some b)
    (hs : stateNumber (s.ring r) ∈ [3, 4])
    (hu : releaseHeldOn r (dropAppliedMarks r (s.setBody r (b.withPhase .defined))) = u) :
    exec .disarmRing s = .next { u with engine := reporting s c .ok c.words.params } := by
  obtain ⟨-, -, hallowed, -⟩ := allowed_of_stateNumber (s.ring r)
  rw [exec, execDisarmRing, h.performing rfl, h.ringCommand (hallowed hs), ← hu]
  simp only [onBody, hb]
  exact congrArg Host.Outcome.next (h.finish _ .ok (by simp) (by simp))

/-- Settles O36: the ring set back (`dropAppliedMarks_setBody_eq`), with and without a held write. -/
theorem disarmRingResult : Obligations.DisarmRingResult := by
  intro s c r b h hb hs
  have hheld : heldOn (dropAppliedMarks r (s.setBody r (b.withPhase .defined))) r = heldOn s r :=
    heldOn_congr (by simp) r
  refine ⟨fun hn => ?_, fun p hold before after e hh hl he hbefore => ?_⟩
  · have hu := (heldOn_none (hheld.trans hn)).trans (dropAppliedMarks_setBody_eq b)
    exact execDisarmRing_eq h hb hs hu
  · have hu := (heldOn_some (hheld.trans hh)).trans (releaseHeld_cut (by simpa using hl) hbefore he)
    conv_rhs at hu => rw [dropAppliedMarks_setBody_eq]
    exact execDisarmRing_eq h hb hs hu

/-! ### RELEASE_RING, RESET_COUNTS and RESET_TABLE (R143, R152, R159) -/

theorem execReleaseRing_eq (h : Executes s 2 r.val c) (hs : stateNumber (s.ring r) = 1) :
    exec .releaseRing s = .next (finish .ok ((forgetNotices r s).setRing r RingEntry.free)) := by
  obtain ⟨-, hallowed, -⟩ := allowed_of_stateNumber (s.ring r)
  rw [exec, execReleaseRing, h.performing rfl, h.ringCommand (hallowed hs)]

theorem execResetCounts_eq (h : Executes s 10 r.val c) (hs : stateNumber (s.ring r) ∈ [1, 3, 4]) :
    exec .resetCounts s = .next (finish .ok (s.setRing r { s.ring r with count := 0, last := none })) := by
  obtain ⟨-, -, -, -, hallowed⟩ := allowed_of_stateNumber (s.ring r)
  rw [exec, execResetCounts, h.performing rfl, h.ringCommand (hallowed hs)]

theorem releaseAny_none {p : Port} (h : s.holds.get p = none) : releaseAny p s = s := by
  simp only [releaseAny, h]

theorem releaseAny_some {p : Port} {h : HoldSlot} (hh : s.holds.get p = some h) : releaseAny p s = releaseHeld p s := by
  simp only [releaseAny, hh]

/-- With one port holding, its write is released and nothing else (R69, R82). -/
theorem releaseAny_both {p : Port} {h : HoldSlot} (hh : s.holds.get p = some h) (ho : s.holds.get (other p) = none) :
    releaseAny .b (releaseAny .a s) = releaseHeld p s := by
  cases p with
  | a =>
    have ho' : (releaseHeld .a s).holds.get .b = none := ho
    rw [releaseAny_some hh, releaseAny_none ho']
  | b =>
    have ho' : s.holds.get .a = none := ho
    rw [releaseAny_none ho', releaseAny_some hh]

theorem State.mapRings_const (e : RingEntry) (s : State) :
    s.mapRings (fun _ => e) = { s with rings := Vector.replicate 24 e } := by
  have : (s.mapRings fun _ => e).rings = Vector.replicate 24 e :=
    State.rings_ext fun r => (State.ring_mapRings s _ r).trans (Vector.getElem_replicate r.isLt).symm
  rw [← this]
  rfl

@[simp] theorem releaseAny_ctlBase (p : Port) (s : State) : (releaseAny p s).ctlBase = s.ctlBase := by
  unfold releaseAny
  split <;> simp

@[simp] theorem clearTable_engine (s : State) : (clearTable s).engine = s.engine := by
  simp [clearTable]

@[simp] theorem clearTable_ctlBase (s : State) : (clearTable s).ctlBase = s.ctlBase := by
  simp [clearTable]

/-- RESET_TABLE, over the state in which the held writes are released. -/
theorem execResetTable_eq {operand : Nat} {u : State} (h : Executes s 13 operand c)
    (hu : releaseAny .b (releaseAny .a s) = u) : exec .resetTable s = .next
      { forgetRecords (· != .device) u with
        rings := Vector.replicate 24 { body := none, count := 0, last := none, pend := ⟨0, 0⟩ }
        queues := ⟨u.queues.a.filter (· == .device), u.queues.b.filter (· == .device)⟩
        outstanding := u.outstanding.map fun o =>
          match o.origin with
          | .port p n ring _ => { o with origin := .port p n ring false }
          | _ => o
        engine := reporting s c .ok c.words.params } := by
  have hsource : (fun x : Source => !x.isRing) = (· == .device) := by
    funext x
    cases x <;> rfl
  rw [exec, execResetTable, h.performing rfl, h.finish (clearTable s) .ok (by simp) (by simp), clearTable,
    hsource, clearedForAll_eq, hu]
  dsimp only
  rw [State.mapRings_const]
  rfl

/-- Settles O34: each command's report over the state it leaves. -/
theorem clearingCommands : Obligations.ClearingCommands := by
  intro s c
  refine ⟨fun r h hs => ?_, fun r h hs => ?_, fun operand h => ⟨fun hn => ?_, ?_⟩⟩
  · have hfinish := h.finish ((forgetNotices r s).setRing r RingEntry.free) .ok (by simp) (by simp)
    rw [execReleaseRing_eq h hs, hfinish, forgetNotices_eq]
    rfl
  · rw [execResetCounts_eq h hs]
    exact congrArg Host.Outcome.next (h.finish _ .ok rfl rfl)
  · have ha : s.holds.get .a = none := by rw [hn]; rfl
    have hb : s.holds.get .b = none := by rw [hn]; rfl
    have hu : releaseAny .b (releaseAny .a s) = s := by rw [releaseAny_none ha, releaseAny_none hb]
    exact execResetTable_eq h hu
  · intro p hold before after e hh ho hl he hbefore
    exact execResetTable_eq h ((releaseAny_both hh ho).trans (releaseHeld_cut hl hbefore he))

end Sys2Proof.Machine
end

section
/-! SUPPORT. The assertion of a port reset line (R177, R178) step by step: what each step after the discards leaves to
the rest of the machine, what becomes of each ring's body, and what becomes of the two ports' interfaces. -/

namespace Sys2Proof.Machine

variable {s t u : State} {p q : Port} {r : RingId}

/-! ### What every step after the discards leaves alone -/

/-- From `s` to `t` the lines, the clock, the memory side, the owed answers, and every count and last violation stay. -/
structure Aside (s t : State) : Prop where
  portReset : t.portReset = s.portReset
  time : t.time = s.time
  ctlBase : t.ctlBase = s.ctlBase
  mgmt : t.mgmt = s.mgmt
  windowMapped : t.windowMapped = s.windowMapped
  order : t.order = s.order
  memoryBus : t.memoryBus = s.memoryBus
  responseBus : t.responseBus = s.responseBus
  length : t.outstanding.length = s.outstanding.length
  awaited : ∀ q, t.outstanding.filterMap (OutEntry.awaited? q) = s.outstanding.filterMap (OutEntry.awaited? q)
  count : ∀ r, (t.ring r).count = (s.ring r).count
  last : ∀ r, (t.ring r).last = (s.ring r).last

theorem Aside.refl (s : State) : Aside s s :=
  ⟨rfl, rfl, rfl, rfl, rfl, rfl, rfl, rfl, rfl, fun _ => rfl, fun _ => rfl, fun _ => rfl⟩

theorem Aside.trans (h : Aside s t) (h' : Aside t u) : Aside s u where
  portReset := h'.portReset.trans h.portReset
  time := h'.time.trans h.time
  ctlBase := h'.ctlBase.trans h.ctlBase
  mgmt := h'.mgmt.trans h.mgmt
  windowMapped := h'.windowMapped.trans h.windowMapped
  order := h'.order.trans h.order
  memoryBus := h'.memoryBus.trans h.memoryBus
  responseBus := h'.responseBus.trans h.responseBus
  length := h'.length.trans h.length
  awaited q := (h'.awaited q).trans (h.awaited q)
  count r := (h'.count r).trans (h.count r)
  last r := (h'.last r).trans (h.last r)

/-- What `Aside` says of all but the outstanding entries. -/
@[simp] def SameSurroundings (s t : State) : Prop :=
  t.portReset = s.portReset ∧ t.time = s.time ∧ t.ctlBase = s.ctlBase ∧ t.mgmt = s.mgmt ∧
    t.windowMapped = s.windowMapped ∧ t.order = s.order ∧ t.memoryBus = s.memoryBus ∧ t.responseBus = s.responseBus ∧
    (∀ r, (t.ring r).count = (s.ring r).count) ∧ ∀ r, (t.ring r).last = (s.ring r).last

/-- Outstanding entries change without a change of what is owed. -/
theorem Aside.of_map (f : OutEntry → OutEntry) (outstanding : t.outstanding = s.outstanding.map f)
    (owed : ∀ o q, (f o).awaited? q = o.awaited? q) (same : SameSurroundings s t) : Aside s t := by
  obtain ⟨portReset, time, ctlBase, mgmt, windowMapped, order, memoryBus, responseBus, count, last⟩ := same
  have length : t.outstanding.length = s.outstanding.length := by rw [outstanding, List.length_map]
  refine ⟨portReset, time, ctlBase, mgmt, windowMapped, order, memoryBus, responseBus, length, fun q => ?_, count, last⟩
  rw [outstanding, List.filterMap_map]
  exact congrArg (List.filterMap · _) (funext fun o => owed o q)

theorem Aside.of_same (outstanding : t.outstanding = s.outstanding) (same : SameSurroundings s t) : Aside s t :=
  .of_map id (by simpa using outstanding) (fun _ _ => rfl) same

@[simp] theorem State.count_setBody (s : State) (r i : RingId) (b : RingBody) :
    ((s.setBody r b).ring i).count = (s.ring i).count := by
  by_cases h : i = r
  · subst h; simp
  · rw [State.ring_setBody_ne _ _ h]

@[simp] theorem State.last_setBody (s : State) (r i : RingId) (b : RingBody) :
    ((s.setBody r b).ring i).last = (s.ring i).last := by
  by_cases h : i = r
  · subst h; simp
  · rw [State.ring_setBody_ne _ _ h]

theorem OutEntry.awaited?_dropApplied (r : RingId) (o : OutEntry) (q : Port) :
    (o.dropApplied r).awaited? q = o.awaited? q := by
  unfold OutEntry.dropApplied
  split
  · rename_i h
    split
    · simp only [OutEntry.awaited?, h]
    · rfl
  · rfl

theorem Aside.faultEntry (cause : FaultCause) : Aside s (faultEntry r cause s) := by
  unfold Machine.faultEntry
  split
  · split
    · exact .of_map (OutEntry.dropApplied r) (by simp [dropAppliedMarks]) (OutEntry.awaited?_dropApplied r) (by simp)
    · exact .refl s
  · exact .refl s

theorem Aside.faultTracking : Aside s (faultTracking s) := by
  have hfold (l : List RingId) (u : State) :
      Aside u (l.foldl (fun t r => Machine.faultEntry r .peerReset t) u) := by
    induction l generalizing u with
    | nil => exact .refl u
    | cons r l ih => exact (Aside.faultEntry _).trans (ih _)
  have hcount : Aside s { s with freeCount := s.freeCount + 1 } :=
    .of_same rfl ⟨rfl, rfl, rfl, rfl, rfl, rfl, rfl, rfl, fun _ => rfl, fun _ => rfl⟩
  exact hcount.trans (hfold ..)

theorem Aside.flagPeerReset : Aside s (s.mapRings RingEntry.flagPeerReset) :=
  .of_same rfl (by simp [RingEntry.flagPeerReset_eq])

theorem Aside.raiseDevice {k : DeviceKind} : Aside s (raiseDevice p k s) := .of_same (by simp) (by simp)

theorem Aside.clearPortNotices : Aside s (clearPortNotices p s) :=
  .of_same rfl (by simp [Machine.clearPortNotices])

theorem abandonJob_outstanding (p : Port) (s : State) : (abandonJob p s).outstanding =
    s.outstanding.map fun o =>
      match o.origin with
      | .notice u _ => if u = p then { o with discarded := true } else o
      | _ => o := by
  unfold abandonJob
  split
  · split <;> rfl
  · rfl

theorem Aside.abandonJob : Aside s (abandonJob p s) := by
  refine .of_map _ (abandonJob_outstanding p s) (fun o q => ?_) (by simp)
  split
  · rename_i h
    split
    · simp only [OutEntry.awaited?, h]
    · rfl
  · rfl

theorem Aside.unitOff : Aside s (unitOff p s) := .of_same (by simp) (by simp)

theorem Aside.resetUnit : Aside s (resetUnit p s) := by
  have hoff : Aside s (Machine.abandonJob p (Machine.unitOff p s)) := Aside.unitOff.trans .abandonJob
  unfold Machine.resetUnit
  dsimp only
  split
  · exact hoff
  · exact hoff.trans (.of_same (by simp) (by simp))

theorem Aside.abandonSeeding : Aside s (abandonSeeding s) := by
  rcases abandonSeeding_cases s with ⟨h, -⟩ | ⟨r, b, rec, -, -, -, h⟩ <;> rw [h]
  · exact .refl s
  · exact .of_same (by simp) (by simp)

theorem Aside.abandonUnitWait : Aside s (abandonUnitWait s) := by
  unfold Machine.abandonUnitWait
  split
  · exact Aside.unitOff.trans .abandonJob
  · exact .of_same (by simp) (by simp)
  · exact .refl s

theorem OutEntry.awaited?_discardEngine (o : OutEntry) (q : Port) : o.discardEngine.awaited? q = o.awaited? q := by
  unfold OutEntry.discardEngine
  split
  · rename_i h
    simp only [OutEntry.awaited?, h]
  · rfl

theorem Aside.reinitEngine : Aside s (reinitEngine s) := by
  unfold Machine.reinitEngine
  split
  · exact .refl s
  · exact Aside.of_map OutEntry.discardEngine rfl OutEntry.awaited?_discardEngine (by simp)

theorem Aside.drainTestSeeding : Aside s (drainTestSeeding s) := by
  unfold Machine.drainTestSeeding
  split
  · rename_i r _
    rcases drainTest_cases r s with h | ⟨b, rec, -, -, -, h⟩ <;> rw [h]
    · exact .refl s
    · exact .of_same (by simp) (by simp)
  · exact .refl s

/-! ### The steps of the assertion -/

/-- The steps of a port's reset but the last: the discards, the faults, the flag, PEER_RESET raised, the port's notices
cleared, and its unit OFF (R92, R177). -/
def resetSteps (p : Port) (s : State) : State :=
  resetUnit p (clearPortNotices p (raiseDevice (other p) .peerReset
    ((faultTracking (discardRequests p (setPortReset p true s))).mapRings RingEntry.flagPeerReset)))

/-- The state once a line that is not asserted asserts, with RESET released. -/
def portResetEnd (p : Port) (s : State) : State :=
  if p = s.mgmt then reinitEngine (abandonUnitWait (abandonSeeding (resetSteps p s)))
  else drainTestSeeding (resetSteps p s)

theorem execPortResetAssert_eq (h : s.portReset.get p = false) (hr : s.resetLine = false) :
    exec (.portResetAssert p) s = .next (portResetEnd p s) := by
  simp only [exec, execPortResetAssert, assertPortReset, h, hr, portResetEnd, resetSteps, Bool.false_eq_true, if_false]

theorem Aside.resetSteps : Aside (discardRequests p (setPortReset p true s)) (resetSteps p s) :=
  Aside.faultTracking.trans (Aside.flagPeerReset.trans
    (Aside.raiseDevice.trans (Aside.clearPortNotices.trans .resetUnit)))

/-! ### The discards (R177) -/

theorem OutEntry.awaited?_discardPort_self (p : Port) (o : OutEntry) : (o.discardPort p).awaited? p = none := by
  rcases o with ⟨⟨q, n, ring, ap⟩ | k | ⟨u, w⟩, d⟩
  · by_cases h : q = p <;> simp [discardPort, awaited?, h]
  · rfl
  · rfl

theorem OutEntry.awaited?_discardPort_ne (h : q ≠ p) (o : OutEntry) :
    (o.discardPort p).awaited? q = o.awaited? q := by
  rcases o with ⟨⟨q', n, ring, ap⟩ | k | ⟨u, w⟩, d⟩
  · by_cases hp : q' = p
    · simp [discardPort, awaited?, hp, h.symm]
    · simp [discardPort, awaited?, hp]
  · rfl
  · rfl

/-- Memory owes a reset port no answer, and the other port what it owed it (R177). -/
theorem awaited_discardRequests (p q : Port) (s : State) :
    (discardRequests p s).outstanding.filterMap (OutEntry.awaited? q) =
      if q = p then [] else s.outstanding.filterMap (OutEntry.awaited? q) := by
  change (s.outstanding.map (OutEntry.discardPort p)).filterMap (OutEntry.awaited? q) = _
  rw [List.filterMap_map]
  split
  · rename_i h
    subst h
    exact List.filterMap_eq_nil_iff.2 fun o _ => o.awaited?_discardPort_self q
  · rename_i h
    exact congrArg (List.filterMap · _) (funext fun o => o.awaited?_discardPort_ne h)

/-! ### The rings' bodies (R19, R57) -/

/-- A TRACKING body faulted by a port reset at `time`; any other body (R19, R56). -/
def RingBody.peerFaulted (time : Word) (b : RingBody) : RingBody :=
  { b with
    phase :=
      match b.phase with
      | .tracking _ _ => .faulted { cause := .peerReset, time := time } none none
      | ph => ph }

theorem RingBody.peerFaulted_of_tracking {b : RingBody} {head tail : Index} (h : b.phase = .tracking head tail)
    (time : Word) : b.peerFaulted time = b.withPhase (.faulted { cause := .peerReset, time := time } none none) := by
  simp only [peerFaulted, h, withPhase]

theorem RingBody.peerFaulted_of_not {b : RingBody} (h : ∀ head tail, b.phase ≠ .tracking head tail) (time : Word) :
    b.peerFaulted time = b := by
  rcases b with ⟨_, _, _, ph⟩
  cases ph with
  | tracking head tail => exact absurd rfl (h head tail)
  | _ => rfl

theorem RingBody.peerFaulted_peerFaulted (b : RingBody) (time : Word) :
    (b.peerFaulted time).peerFaulted time = b.peerFaulted time := by
  rcases b with ⟨_, _, _, ph⟩
  cases ph <;> rfl

/-- A body other than a SEEDING one carries no flag (R19). -/
theorem RingBody.flagPeerReset_of_not {b : RingBody} (h : ∀ rec, b.phase ≠ .seeding rec) : b.flagPeerReset = b := by
  rcases b.flagPeerReset_cases with h' | ⟨rec, hph, -⟩
  · exact h'
  · exact absurd hph (h rec)

theorem faultEntry_of_not {cause : FaultCause} (h : (s.ring r).isTracking = false) : faultEntry r cause s = s := by
  unfold faultEntry
  split
  · rename_i b hb
    split
    · rename_i head tail hph
      simp [(RingEntry.isTracking_iff hb).2 ⟨head, tail, hph⟩] at h
    · rfl
  · rfl

theorem faultEntry_ring_body (r i : RingId) (s : State) : ((faultEntry r .peerReset s).ring i).body =
    if i = r then (s.ring i).body.map (RingBody.peerFaulted s.time) else (s.ring i).body := by
  unfold faultEntry
  split
  · rename_i b hb
    split
    · rename_i head tail hph
      by_cases hi : i = r
      · subst hi
        simp [hb, RingBody.peerFaulted_of_tracking hph]
      · simp [hi, State.ring_setBody_ne _ _ hi]
    · rename_i hph
      split
      · rename_i hi
        rw [hi, hb, Option.map_some, RingBody.peerFaulted_of_not hph]
      · rfl
  · rename_i hb
    split
    · rename_i hi
      rw [hi, hb, Option.map_none]
    · rfl

theorem mem_faultOrder : r ∈ faultOrder s ↔ (s.ring r).isTracking = true := by
  simp [faultOrder]

/-- Every TRACKING ring faults (R19). -/
theorem faultTracking_ring_body (r : RingId) (s : State) :
    ((faultTracking s).ring r).body = (s.ring r).body.map (RingBody.peerFaulted s.time) := by
  have hfold (l : List RingId) (u : State) :
      ((l.foldl (fun t r => faultEntry r .peerReset t) u).ring r).body =
        if r ∈ l then (u.ring r).body.map (RingBody.peerFaulted u.time) else (u.ring r).body := by
    induction l generalizing u with
    | nil => rfl
    | cons i l ih =>
      rw [List.foldl_cons, ih, faultEntry_ring_body, faultEntry_time]
      by_cases hi : r = i
      · simp [hi, Function.comp_def, RingBody.peerFaulted_peerFaulted]
      · simp [hi]
  refine (hfold ..).trans ?_
  split
  · rfl
  · rename_i hr
    rw [mem_faultOrder] at hr
    change (s.ring r).body = _
    rcases hb : (s.ring r).body with _ | b
    · rfl
    · have hnot : ∀ head tail, b.phase ≠ .tracking head tail := fun head tail h =>
        hr ((RingEntry.isTracking_iff hb).2 ⟨head, tail, h⟩)
      rw [Option.map_some, RingBody.peerFaulted_of_not hnot]

@[simp] theorem resetUnit_rings (p : Port) (s : State) : (resetUnit p s).rings = s.rings := by
  unfold resetUnit
  dsimp only
  split <;> simp

theorem resetSteps_ring_body (p : Port) (r : RingId) (s : State) : ((resetSteps p s).ring r).body =
    (s.ring r).body.map fun b => (b.peerFaulted s.time).flagPeerReset := by
  have hclear (u : State) : ((clearPortNotices p u).ring r).body = (u.ring r).body := by simp [clearPortNotices]
  rw [resetSteps, State.ring_congr (resetUnit_rings _ _), hclear, raiseDevice_ring_body, State.ring_mapRings,
    RingEntry.flagPeerReset_eq]
  simp only [faultTracking_ring_body, Option.map_map]
  rfl

theorem resetSteps_isSeeding (p : Port) (r : RingId) (s : State) :
    ((resetSteps p s).ring r).isSeeding = (s.ring r).isSeeding := by
  have hflag := RingEntry.isSeeding_flagPeerReset
    { s.ring r with body := (s.ring r).body.map (RingBody.peerFaulted s.time) }
  rw [RingEntry.flagPeerReset_eq, Option.map_map] at hflag
  refine (RingEntry.isSeeding_congr (resetSteps_ring_body p r s)).trans (hflag.trans ?_)
  rcases hb : (s.ring r).body with _ | ⟨_, _, _, ph⟩
  · simp [RingEntry.isSeeding, RingEntry.phase?, hb]
  · cases ph <;> simp [RingEntry.isSeeding, RingEntry.phase?, RingBody.peerFaulted, hb]

theorem resetSteps_seedingRing (p : Port) (s : State) : seedingRing (resetSteps p s) = seedingRing s := by
  simp only [seedingRing, resetSteps_isSeeding]

/-! ### The ports' interfaces (R58, R177) -/

/-- The interface once its held write is released (R58, R83). -/
def PortIface.released (i : PortIface) : PortIface :=
  { i with inFlight := updateFirst InFlight.isHeld (fun e => { e with stage := .eligible }) i.inFlight }

theorem holds_of_heldOn {h : HoldSlot} (hh : heldOn s r = some (q, h)) : s.holds.get q = some h ∧ h.ring = r := by
  unfold heldOn at hh
  rcases ha : s.holds.a with _ | h₁ <;> rcases hb : s.holds.b with _ | h₂ <;> simp only [ha, hb] at hh
  · cases hh
  · split at hh <;> cases hh
    exact ⟨hb, ‹_›⟩
  · split at hh <;> cases hh
    exact ⟨ha, ‹_›⟩
  · split at hh
    · cases hh
      exact ⟨ha, ‹_›⟩
    · split at hh <;> cases hh
      exact ⟨hb, ‹_›⟩

/-- With one port holding, the write held on a ring is that port's or none (R69). -/
theorem heldOn_of_one {h : HoldSlot} (hq : s.holds.get q = some h) (ho : s.holds.get (other q) = none) :
    heldOn s r = if h.ring = r then some (q, h) else none := by
  cases q <;> simp_all [heldOn, PerPort.get, other]

/-- What faulting a ring does to the ports: it releases the write held on the ring. -/
theorem faultEntry_iface_of_held (cause : FaultCause) {h : HoldSlot} (ht : (s.ring r).isTracking = true)
    (hh : heldOn s r = some (q, h)) :
    (faultEntry r cause s).ports = s.ports.set q (s.ports.get q).released ∧
      (faultEntry r cause s).holds = s.holds.set q none := by
  unfold faultEntry
  split
  · rename_i b hb
    obtain ⟨head, tail, hph⟩ := (RingEntry.isTracking_iff hb).1 ht
    have hh' : heldOn (dropAppliedMarks r (s.setBody r (b.withPhase
        (.faulted { cause := cause, time := s.time } none none)))) r = some (q, h) :=
      (heldOn_congr (by simp) r).trans hh
    simp only [hph, raiseRing_ports, raiseRing_holds, heldOn_some hh']
    exact ⟨rfl, rfl⟩
  · simp_all [RingEntry.isTracking, RingEntry.phase?]

theorem faultEntry_iface_of_none (cause : FaultCause) (hh : heldOn s r = none) :
    (faultEntry r cause s).ports = s.ports ∧ (faultEntry r cause s).holds = s.holds := by
  unfold faultEntry
  split
  · rename_i b _
    split
    · have hh' : heldOn (dropAppliedMarks r (s.setBody r (b.withPhase
          (.faulted { cause := cause, time := s.time } none none)))) r = none :=
        (heldOn_congr (by simp) r).trans hh
      simp [heldOn_none hh']
    · exact ⟨rfl, rfl⟩
  · exact ⟨rfl, rfl⟩

/-- A port that holds no write is left alone by the faults. -/
theorem foldl_faultEntry_of_empty (l : List RingId) (h : s.holds.get q = none) :
    (l.foldl (fun t r => faultEntry r .peerReset t) s).ports.get q = s.ports.get q ∧
      (l.foldl (fun t r => faultEntry r .peerReset t) s).holds.get q = none := by
  induction l generalizing s with
  | nil => exact ⟨rfl, h⟩
  | cons r l ih =>
    have hstep : (faultEntry r .peerReset s).ports.get q = s.ports.get q ∧
        (faultEntry r .peerReset s).holds.get q = none := by
      rcases hh : heldOn s r with _ | ⟨p, hold⟩
      · obtain ⟨hports, hholds⟩ := faultEntry_iface_of_none .peerReset hh
        rw [hports, hholds]
        exact ⟨rfl, h⟩
      · have hne : q ≠ p := by
          rintro rfl
          simp [(holds_of_heldOn hh).1] at h
        cases ht : (s.ring r).isTracking with
        | false =>
          rw [faultEntry_of_not ht]
          exact ⟨rfl, h⟩
        | true =>
          obtain ⟨hports, hholds⟩ := faultEntry_iface_of_held .peerReset ht hh
          rw [hports, hholds, PerPort.get_set_ne _ _ hne, PerPort.get_set_ne _ _ hne]
          exact ⟨rfl, h⟩
    obtain ⟨hports, hholds⟩ := ih hstep.2
    exact ⟨hports.trans hstep.1, hholds⟩

/-- The write one port holds on a TRACKING ring is released by that ring's fault. -/
theorem foldl_faultEntry_of_held {l : List RingId} {h : HoldSlot} (hq : s.holds.get q = some h)
    (ho : s.holds.get (other q) = none) (ht : (s.ring h.ring).isTracking = true) (hl : h.ring ∈ l) :
    (l.foldl (fun t r => faultEntry r .peerReset t) s).ports.get q = (s.ports.get q).released ∧
      (l.foldl (fun t r => faultEntry r .peerReset t) s).holds.get q = none := by
  induction l generalizing s with
  | nil => cases hl
  | cons r l ih =>
    by_cases hr : h.ring = r
    · have ht' : (s.ring r).isTracking = true := hr ▸ ht
      obtain ⟨hports, hholds⟩ :=
        faultEntry_iface_of_held .peerReset ht' ((heldOn_of_one hq ho).trans (if_pos hr))
      have hempty : (faultEntry r .peerReset s).holds.get q = none := by simp [hholds]
      obtain ⟨hports', hholds'⟩ := foldl_faultEntry_of_empty l hempty
      exact ⟨hports'.trans (by simp [hports]), hholds'⟩
    · obtain ⟨hports, hholds⟩ :=
        faultEntry_iface_of_none .peerReset ((heldOn_of_one hq ho).trans (if_neg hr))
      have hbody : ((faultEntry r .peerReset s).ring h.ring).body = (s.ring h.ring).body :=
        (faultEntry_ring_body r h.ring s).trans (if_neg hr)
      rw [List.foldl_cons, ← hports]
      exact ih (hholds ▸ hq) (hholds ▸ ho) (RingEntry.isTracking_congr hbody ▸ ht)
        ((List.mem_cons.1 hl).resolve_left hr)

end Sys2Proof.Machine
end

section
/-! The assertion of a port reset line: the flag of a seeding that goes on (R44), and what is discarded, faulted and
left alone (R19, R177). -/

namespace Sys2Proof.Machine

variable {s t : State} {p q : Port} {r : RingId}

/-! ### The engine and the seeding (R40, R44) -/

@[simp] theorem faultTracking_engine (s : State) : (faultTracking s).engine = s.engine := by
  have hfold (l : List RingId) (u : State) :
      (l.foldl (fun t r => faultEntry r .peerReset t) u).engine = u.engine := by
    induction l generalizing u with
    | nil => rfl
    | cons r l ih => rw [List.foldl_cons, ih, faultEntry_engine]
  exact hfold ..

theorem settleWait_of_ne {w : EngineWait} (h : s.engine.state ≠ .waiting w) (status : CommandStatus) (words : Params) :
    settleWait w status words s = s := if_neg h

/-- The unit of a reset port is OFF; the engine waits on when it does not wait for that unit (R107, R108). -/
theorem resetUnit_engine
    (h : p = s.mgmt ∨ s.engine.state ≠ .waiting (.setup p) ∧ s.engine.state ≠ .waiting (.noticeOff p)) :
    (resetUnit p s).engine = s.engine := by
  unfold resetUnit
  dsimp only
  split
  · simp
  · obtain ⟨hsetup, hoff⟩ := h.resolve_left ‹_›
    have hengine : (abandonJob p (unitOff p s)).engine = s.engine := by simp
    rw [← hengine] at hsetup hoff
    rw [settleWait_of_ne hsetup, settleWait_of_ne hoff, hengine]

theorem resetSteps_engine
    (h : p = s.mgmt ∨ s.engine.state ≠ .waiting (.setup p) ∧ s.engine.state ≠ .waiting (.noticeOff p)) :
    (resetSteps p s).engine = s.engine := by
  have hengine : (discardRequests p (setPortReset p true s)).engine = s.engine := rfl
  have hmgmt : (faultTracking (discardRequests p (setPortReset p true s))).mgmt = s.mgmt := Aside.faultTracking.mgmt
  rw [resetSteps, resetUnit_engine (by simpa [hengine, hmgmt] using h)]
  simp [hengine]

theorem drainBlocked_congr (h : t.ports = s.ports) (r : RingId) (d : Descriptor) :
    drainBlocked t r d = drainBlocked s r d := by
  simp only [drainBlocked, eligibleEntry, State.inFlight, h]

theorem drainTest_of_seeding {b : RingBody} {rec : SeedingRecord} (hb : (s.ring r).body = some b)
    (hph : b.phase = .seeding rec) : drainTest r s =
      if rec.step = .draining ∧ drainBlocked s r b.desc = false then
        presentEngine (seedRead r b.desc .head) (s.setBody r (b.withPhase (.seeding { rec with step := .reading })))
      else s := by
  simp only [drainTest, hb, hph]

/-- Settles O5: the steps before the last set the flag and leave the engine (`resetSteps_ring_body`,
`resetSteps_engine`), and the draining test ends them. -/
theorem portResetFlagsSeeding : Obligations.PortResetFlagsSeeding := by
  intro p s r b rec hp hr hne hseed hb hph he
  have hbody : ((resetSteps p s).ring r).body = some (b.withPhase (.seeding { rec with peerReset := true })) := by
    rw [resetSteps_ring_body, hb, Option.map_some, RingBody.peerFaulted_of_not (by simp [hph])]
    simp only [RingBody.flagPeerReset, hph]
  have hengine : (resetSteps p s).engine = s.engine := resetSteps_engine (.inr (by simp [he]))
  have hblocked : drainBlocked (drainTest r (resetSteps p s)) r b.desc = drainBlocked (resetSteps p s) r b.desc :=
    drainBlocked_congr (by simp) r _
  refine ⟨drainTest r (resetSteps p s), ?_, ?_⟩
  · rw [execPortResetAssert_eq hp hr, portResetEnd, if_neg hne, drainTestSeeding, resetSteps_seedingRing, hseed]
  · rw [hblocked]
    by_cases hd : rec.step = .draining ∧ drainBlocked (resetSteps p s) r b.desc = false
    · have htest := (drainTest_of_seeding hbody rfl).trans (if_pos hd)
      rw [if_pos hd, if_pos hd, htest]
      simp only [presentEngine, State.ring_setEngine, State.ring_setBody_self, State.setBody_engine, hengine]
      exact ⟨rfl, rfl⟩
    · have htest := (drainTest_of_seeding hbody rfl).trans (if_neg hd)
      rw [if_neg hd, if_neg hd, htest, hbody, hengine, List.append_nil]
      exact ⟨rfl, rfl⟩

/-! ### The ports' interfaces -/

theorem faultTracking_iface_of_empty (h : s.holds.get q = none) :
    (faultTracking s).ports.get q = s.ports.get q ∧ (faultTracking s).holds.get q = none := by
  have hcount : { s with freeCount := s.freeCount + 1 }.holds.get q = none := h
  exact foldl_faultEntry_of_empty _ hcount

theorem faultTracking_iface_of_held {h : HoldSlot} (hq : s.holds.get q = some h) (ho : s.holds.get (other q) = none)
    (ht : (s.ring h.ring).isTracking = true) :
    (faultTracking s).ports.get q = (s.ports.get q).released ∧ (faultTracking s).holds.get q = none := by
  have hcount : { s with freeCount := s.freeCount + 1 }.holds.get q = some h := hq
  exact foldl_faultEntry_of_held hcount ho ht (mem_faultOrder.2 ht)

theorem resetUnit_ports (p : Port) (s : State) : (resetUnit p s).ports = (unitOff p s).ports := by
  unfold resetUnit
  dsimp only
  split <;> simp

@[simp] theorem resetUnit_holds (p : Port) (s : State) : (resetUnit p s).holds = s.holds := by
  unfold resetUnit
  dsimp only
  split <;> simp

theorem unitOff_ports (p : Port) (s : State) : (unitOff p s).ports =
    s.ports.set p { s.ports.get p with inFlight := (s.inFlight p).map InFlight.dropNoticeMark } := rfl

theorem resetSteps_holds (p : Port) (s : State) :
    (resetSteps p s).holds = (faultTracking (discardRequests p (setPortReset p true s))).holds := by
  simp [resetSteps]

theorem resetSteps_ports (p : Port) (s : State) : (resetSteps p s).ports =
    (unitOff p (faultTracking (discardRequests p (setPortReset p true s)))).ports := by
  rw [resetSteps, resetUnit_ports, unitOff_ports, unitOff_ports]
  simp [State.inFlight]

/-- The reset port is left with no request and no held write (R177, R83). -/
theorem resetSteps_self (p : Port) (s : State) :
    (resetSteps p s).inFlight p = [] ∧ (resetSteps p s).holds.get p = none := by
  have hempty : (discardRequests p (setPortReset p true s)).holds.get p = none := by simp [discardRequests]
  obtain ⟨hports, hholds⟩ := faultTracking_iface_of_empty hempty
  refine ⟨?_, by rw [resetSteps_holds, hholds]⟩
  rw [State.inFlight, resetSteps_ports, unitOff_ports, PerPort.get_set_self, State.inFlight, hports]
  simp [discardRequests]

/-- The other port's interface stays when it holds no write. -/
theorem resetSteps_other_of_empty (h : s.holds.get (other p) = none) :
    (resetSteps p s).ports.get (other p) = s.ports.get (other p) ∧ (resetSteps p s).holds.get (other p) = none := by
  have hempty : (discardRequests p (setPortReset p true s)).holds.get (other p) = none := by
    simpa [discardRequests, setPortReset] using h
  obtain ⟨hports, hholds⟩ := faultTracking_iface_of_empty hempty
  rw [resetSteps_holds, resetSteps_ports, unitOff_ports, PerPort.get_set_other, hports, hholds]
  exact ⟨by simp [discardRequests, setPortReset], rfl⟩

/-- The write the other port holds on a TRACKING ring is released (R58). -/
theorem resetSteps_other_of_held {h : HoldSlot} (hq : s.holds.get (other p) = some h)
    (ht : (s.ring h.ring).isTracking = true) :
    (resetSteps p s).ports.get (other p) = (s.ports.get (other p)).released ∧
      (resetSteps p s).holds.get (other p) = none := by
  have hheld : (discardRequests p (setPortReset p true s)).holds.get (other p) = some h := by
    simpa [discardRequests, setPortReset] using hq
  have hempty : (discardRequests p (setPortReset p true s)).holds.get (other (other p)) = none := by
    simp [discardRequests]
  obtain ⟨hports, hholds⟩ := faultTracking_iface_of_held hheld hempty ht
  rw [resetSteps_holds, resetSteps_ports, unitOff_ports, PerPort.get_set_other, hports, hholds]
  exact ⟨by simp [discardRequests, setPortReset], rfl⟩

/-! ### The last step (R39, R40, R45, R107, R135) -/

@[simp] theorem abandonSeeding_holds (s : State) : (abandonSeeding s).holds = s.holds := by
  rcases abandonSeeding_cases s with ⟨h, -⟩ | ⟨r, b, rec, -, -, -, h⟩ <;> rw [h]
  simp

@[simp] theorem abandonSeeding_engine (s : State) : (abandonSeeding s).engine = s.engine := by
  rcases abandonSeeding_cases s with ⟨h, -⟩ | ⟨r, b, rec, -, -, -, h⟩ <;> rw [h]
  simp

@[simp] theorem abandonUnitWait_holds (s : State) : (abandonUnitWait s).holds = s.holds := by
  unfold abandonUnitWait
  split <;> simp

@[simp] theorem reinitEngine_holds (s : State) : (reinitEngine s).holds = s.holds := by
  unfold reinitEngine
  split <;> simp

/-- A stalled request of an abandoned seeding waits to be presented anew (R39). -/
def requeuedWhen (c : Prop) [Decidable c] (e : InFlight) : InFlight :=
  if c ∧ e.stage = .stalled then { e with stage := .queued, cls := none } else e

/-- A waiting notice tail write of a unit whose setup is abandoned loses its mark (R107, R114). -/
def unmarkedWhen (c : Prop) [Decidable c] (e : InFlight) : InFlight :=
  if c ∧ e.stage = .eligible ∧ e.mark = some .noticeTail then { e with mark := none } else e

theorem seedingRing_isSome_iff (s : State) : (seedingRing s).isSome = true ↔ ∃ r, (s.ring r).isSeeding = true := by
  simp [seedingRing, List.find?_isSome]

theorem requeuedWhen_of_not {c : Prop} [Decidable c] (h : ¬c) : requeuedWhen c = id := by
  funext e
  simp [requeuedWhen, h]

theorem unmarkedWhen_of_not {c : Prop} [Decidable c] (h : ¬c) : unmarkedWhen c = id := by
  funext e
  simp [unmarkedWhen, h]

theorem requeuedWhen_congr {c c' : Prop} [Decidable c] [Decidable c'] (h : c ↔ c') :
    requeuedWhen c = requeuedWhen c' := by
  funext e
  simp only [requeuedWhen, h]

theorem unmarkedWhen_congr {c c' : Prop} [Decidable c] [Decidable c'] (h : c ↔ c') :
    unmarkedWhen c = unmarkedWhen c' := by
  funext e
  simp only [unmarkedWhen, h]

theorem requeuedWhen_and (c c' : Prop) [Decidable c] [Decidable c'] : requeuedWhen (c ∧ c') = fun e =>
    if c ∧ c' ∧ e.stage = .stalled then { e with stage := .queued, cls := none } else e := by
  funext e
  simp only [requeuedWhen, and_assoc]

theorem unmarkedWhen_and (c c' : Prop) [Decidable c] [Decidable c'] : unmarkedWhen (c ∧ c') = fun e =>
    if c ∧ c' ∧ e.stage = .eligible ∧ e.mark = some .noticeTail then { e with mark := none } else e := by
  funext e
  simp only [unmarkedWhen, and_assoc]

theorem get_ports_unstallAll (s : State) (q : Port) :
    (unstallAll s).ports.get q = { s.ports.get q with inFlight := (s.inFlight q).map unstall } := by
  cases q <;> rfl

theorem abandonSeeding_ports (s : State) (q : Port) : (abandonSeeding s).ports.get q =
    { s.ports.get q with
      inFlight := (s.inFlight q).map (requeuedWhen (∃ r, (s.ring r).isSeeding = true)) } := by
  rcases abandonSeeding_cases s with ⟨h, hn⟩ | ⟨r, b, rec, hr, hb, hph, h⟩ <;> rw [h]
  · have hno : ¬∃ r, (s.ring r).isSeeding = true := by simp [← seedingRing_isSome_iff, hn]
    rw [requeuedWhen_of_not hno, List.map_id]
    rfl
  · have hyes : ∃ r, (s.ring r).isSeeding = true := ⟨r, (RingEntry.isSeeding_iff hb).2 ⟨rec, hph⟩⟩
    have hstall : unstall = requeuedWhen (∃ r, (s.ring r).isSeeding = true) := by
      funext e
      simp [unstall, requeuedWhen, hyes, InFlight.isStalled]
    rw [get_ports_unstallAll, hstall]
    rfl

theorem abandonUnitWait_ports (s : State) (q : Port) : (abandonUnitWait s).ports.get q =
    { s.ports.get q with
      inFlight := (s.inFlight q).map (unmarkedWhen (s.engine.state = .waiting (.setup q))) } := by
  unfold abandonUnitWait
  split
  · rename_i u hu
    rw [abandonJob_ports, unitOff_ports]
    by_cases hq : q = u
    · subst hq
      simp [unmarkedWhen, hu, dropNoticeMark_eq]
    · rw [PerPort.get_set_ne _ _ hq]
      rw [unmarkedWhen_of_not (by simp [hu, Ne.symm hq]), List.map_id]
      rfl
  · rename_i u hu
    rw [unmarkedWhen_of_not (by simp [hu]), List.map_id]
    rfl
  · rename_i hsetup _
    rw [unmarkedWhen_of_not (hsetup q), List.map_id]
    rfl

/-- A ring that is not SEEDING is left alone by the abandoning of the seeding, and by the draining test. -/
theorem abandonSeeding_ring_of_not (h : (s.ring r).isSeeding = false) : (abandonSeeding s).ring r = s.ring r := by
  rcases abandonSeeding_cases s with ⟨h', -⟩ | ⟨r₀, b, rec, -, hb, hph, h'⟩ <;> rw [h']
  rw [unstallAll_ring, State.ring_setBody_ne]
  rintro rfl
  simp [(RingEntry.isSeeding_iff hb).2 ⟨rec, hph⟩] at h

theorem drainTestSeeding_ring_of_not (h : (s.ring r).isSeeding = false) : (drainTestSeeding s).ring r = s.ring r := by
  unfold drainTestSeeding
  split
  · rename_i r₀ _
    rcases drainTest_cases r₀ s with h' | ⟨b, rec, hb, hph, -, h'⟩ <;> rw [h']
    refine State.ring_setBody_ne s _ ?_
    rintro rfl
    simp [(RingEntry.isSeeding_iff hb).2 ⟨rec, hph⟩] at h
  · rfl

/-! ### What the assertion leaves -/

theorem portResetEnd_aside (p : Port) (s : State) :
    Aside (discardRequests p (setPortReset p true s)) (portResetEnd p s) := by
  unfold portResetEnd
  split
  · exact Aside.resetSteps.trans (Aside.abandonSeeding.trans (Aside.abandonUnitWait.trans .reinitEngine))
  · exact Aside.resetSteps.trans .drainTestSeeding

theorem portResetEnd_holds (p : Port) (s : State) : (portResetEnd p s).holds = (resetSteps p s).holds := by
  unfold portResetEnd
  split <;> simp

theorem portResetEnd_ports (p q : Port) (s : State) : (portResetEnd p s).ports.get q =
    { (resetSteps p s).ports.get q with
      inFlight := (((resetSteps p s).inFlight q).map
        (requeuedWhen (p = s.mgmt ∧ ∃ r, (s.ring r).isSeeding = true))).map
          (unmarkedWhen (p = s.mgmt ∧ s.engine.state = .waiting (.setup q))) } := by
  unfold portResetEnd
  split
  · rename_i hp
    have hseed : (∃ r, ((resetSteps p s).ring r).isSeeding = true) ↔
        p = s.mgmt ∧ ∃ r, (s.ring r).isSeeding = true := by simp only [resetSteps_isSeeding, hp, true_and]
    have hunit : (resetSteps p s).engine.state = .waiting (.setup q) ↔
        p = s.mgmt ∧ s.engine.state = .waiting (.setup q) := by rw [resetSteps_engine (.inl hp), and_iff_right hp]
    rw [← requeuedWhen_congr hseed, ← unmarkedWhen_congr hunit, reinitEngine_ports, abandonUnitWait_ports,
      abandonSeeding_engine, State.inFlight, abandonSeeding_ports]
  · rename_i hp
    rw [requeuedWhen_of_not (mt And.left hp), unmarkedWhen_of_not (mt And.left hp), List.map_id, List.map_id,
      drainTestSeeding_ports]
    rfl

/-- The reset port is left with no request and no held write (R177, R83). -/
theorem portResetEnd_self (p : Port) (s : State) :
    (portResetEnd p s).inFlight p = [] ∧ (portResetEnd p s).holds.get p = none := by
  obtain ⟨hlist, hhold⟩ := resetSteps_self p s
  rw [portResetEnd_holds, State.inFlight, portResetEnd_ports, hlist]
  exact ⟨rfl, hhold⟩

/-- TRACKING rings fault, and every other ring that is not SEEDING keeps its body (R19, R56). -/
theorem portResetEnd_ring_body (p : Port) (h : (s.ring r).isSeeding = false) :
    ((portResetEnd p s).ring r).body = (s.ring r).body.map (RingBody.peerFaulted s.time) := by
  have hsteps : ((resetSteps p s).ring r).isSeeding = false := (resetSteps_isSeeding p r s).trans h
  have hend : (portResetEnd p s).ring r = (resetSteps p s).ring r := by
    unfold portResetEnd
    split
    · rw [reinitEngine_ring, State.ring_congr (abandonUnitWait_rings _), abandonSeeding_ring_of_not hsteps]
    · exact drainTestSeeding_ring_of_not hsteps
  rw [hend, resetSteps_ring_body]
  refine Option.map_congr fun b hb => RingBody.flagPeerReset_of_not fun rec hrec => ?_
  have hno : ∀ rec, b.phase ≠ .seeding rec := fun rec hph => by
    simp [(RingEntry.isSeeding_iff hb).2 ⟨rec, hph⟩] at h
  unfold RingBody.peerFaulted at hrec
  split at hrec
  · cases hrec
  · exact hno rec hrec

/-- Settles O4: the discards (`awaited_discardRequests`, `portResetEnd_self`), the faults (`portResetEnd_ring_body`),
the other port's interface (`portResetEnd_ports`), and what every step leaves alone (`portResetEnd_aside`). -/
theorem portResetDiscards : Obligations.PortResetDiscards := by
  intro p s hp hr
  have haside := portResetEnd_aside p s
  obtain ⟨hlist, hhold⟩ := portResetEnd_self p s
  refine ⟨portResetEnd p s, execPortResetAssert_eq hp hr, haside.portReset, hlist, hhold, fun hq => ?_,
    fun h before after e hq ht hl he hbefore => ?_, ?_, ?_, ?_, fun r hs => portResetEnd_ring_body p hs,
    fun r => ⟨haside.count r, haside.last r⟩, haside.time, haside.ctlBase, haside.mgmt, haside.windowMapped,
    haside.order, haside.memoryBus, haside.responseBus⟩
  · obtain ⟨hports, hholds⟩ := resetSteps_other_of_empty hq
    rw [portResetEnd_holds, portResetEnd_ports, State.inFlight, hports, requeuedWhen_and, unmarkedWhen_and]
    exact ⟨hholds, rfl⟩
  · obtain ⟨hports, hholds⟩ := resetSteps_other_of_held hq ht
    have hrel : ((s.ports.get (other p)).released).inFlight = before ++ { e with stage := .eligible } :: after := by
      have hlist : (s.ports.get (other p)).inFlight = before ++ e :: after := hl
      rw [PortIface.released, hlist, updateFirst_cut hbefore (by simp [InFlight.isHeld, he])]
    rw [portResetEnd_holds, portResetEnd_ports, State.inFlight, hports, hrel, requeuedWhen_and, unmarkedWhen_and]
    exact ⟨hholds, rfl⟩
  · exact haside.length.trans (List.length_map _)
  · exact (haside.awaited p).trans ((awaited_discardRequests ..).trans (if_pos rfl))
  · exact (haside.awaited (other p)).trans ((awaited_discardRequests ..).trans (if_neg (other_ne p)))

end Sys2Proof.Machine
end

section
/-! Presentations that are not checked (R24, R38, R60, R160, R168), index writes (R25 to R32) and CROSSING accesses
(R55, R169): what the checker decides for each, put in the state it leaves. -/

namespace Sys2Proof.Machine

variable {s : State} {p : Port} {before after : List InFlight} {e : InFlight} {r : RingId} {b : RingBody}
  {w : IndexWord} {x : Access}

/-! ### Presentations that are not checked (R24, R38, R60, R160, R168) -/

theorem execPresentation_of_past (h : Presents s p before e after) (hpast : runsPast e.request.access = true) :
    exec (.presentation p) s = .next (refusePresented p none s) := by
  rw [exec, execPresentation, present_cut h, if_pos hpast]

theorem execPresentation_of_within (h : Presents s p before e after) (hpast : runsPast e.request.access = false) :
    exec (.presentation p) s = .next (presentClassified p e.request.access s) := by
  rw [exec, execPresentation, present_cut h, hpast, if_neg Bool.false_ne_true]

theorem presentClassified_of_index (h : classify s x = indexClass r w) :
    presentClassified p x s = presentIndex p r w x s := by
  cases w <;> simp only [presentClassified, h, indexClass]

/-- What the checker does with a request for a ring's data area or one of its index words. -/
theorem presentClassified_of_ring (h : classify s x ∈ [AccessClass.ringData r, .headWord r, .tailWord r]) :
    classify s x = .ringData r ∧ presentClassified p x s = presentData p r x s ∨
      ∃ w, classify s x = indexClass r w ∧ presentClassified p x s = presentIndex p r w x s := by
  simp only [List.mem_cons, List.not_mem_nil, or_false] at h
  rcases h with h | h | h
  · exact .inl ⟨h, by simp only [presentClassified, h]⟩
  · exact .inr ⟨.head, h, presentClassified_of_index h⟩
  · exact .inr ⟨.tail, h, presentClassified_of_index h⟩

/-- A request to a SEEDING ring stalls (R38). -/
theorem presentClassified_of_seeding {rec : SeedingRecord} (hb : (s.ring r).body = some b)
    (hph : b.phase = .seeding rec) (h : classify s x ∈ [AccessClass.ringData r, .headWord r, .tailWord r]) :
    presentClassified p x s = stallPresented p (classify s x) s := by
  rcases presentClassified_of_ring h with ⟨hcls, hp⟩ | ⟨w, hcls, hp⟩
  · rw [hp, hcls]
    simp only [presentData, hb, hph]
  · rw [hp, hcls]
    simp only [presentIndex, hb, hph]

/-- A request to a FAULTED ring is forwarded unchecked (R60). -/
theorem presentClassified_of_faulted {f : FaultRecord} {oh ot : Option Index} (hb : (s.ring r).body = some b)
    (hph : b.phase = .faulted f oh ot)
    (h : classify s x ∈ [AccessClass.ringData r, .headWord r, .tailWord r]) :
    presentClassified p x s = forwardPresented p (classify s x) none s := by
  rcases presentClassified_of_ring h with ⟨hcls, hp⟩ | ⟨w, hcls, hp⟩
  · rw [hp, hcls]
    simp only [presentData, hb, hph]
  · rw [hp, hcls]
    simp only [presentIndex, hb, hph]

theorem singleWrite_of_read (h : isWrite x = false) : singleWrite x = none := by
  cases hx : x.transfer with
  | read n => simp [singleWrite, hx]
  | write ws => simp [isWrite, hx] at h

/-- A read of a TRACKING ring's index word is forwarded (R24). -/
theorem presentIndex_of_read {head tail : Index} (hb : (s.ring r).body = some b) (hph : b.phase = .tracking head tail)
    (hx : isWrite x = false) : presentIndex p r w x s = forwardPresented p (indexClass r w) none s := by
  simp only [presentIndex, hb, hph, singleWrite_of_read hx]

/-- Settles O10: each request's outcome (`presentClassified_of_seeding`, `presentClassified_of_faulted`,
`presentIndex_of_read`), and the list it leaves. -/
theorem uncheckedPresentation : Obligations.UncheckedPresentation := by
  intro s p before after e h
  refine ⟨fun hpast => ?_, fun hpast => ⟨fun hcls => ?_, fun r b hb hcls => ⟨fun hs => ?_, fun hor => ?_⟩⟩⟩
  · rw [execPresentation_of_past h hpast, refusePresented_cut h rfl]
  · have hplain : presentClassified p e.request.access s = forwardPresented p .plain none s := by
      simp only [presentClassified, hcls]
    rw [execPresentation_of_within h hpast, hplain, forwardPresented_cut h rfl]
  · obtain ⟨rec, hph⟩ := (RingEntry.isSeeding_iff hb).1 hs
    rw [execPresentation_of_within h hpast, presentClassified_of_seeding hb hph hcls, stallPresented_cut h rfl]
  · rw [execPresentation_of_within h hpast]
    refine congrArg Host.Outcome.next (Eq.trans ?_ (forwardPresented_cut h rfl (classify s e.request.access) none))
    rcases hor with ⟨f, oh, ot, hph⟩ | ⟨⟨head, tail, hph⟩, hread, hdata⟩
    · exact presentClassified_of_faulted hb hph hcls
    · rcases presentClassified_of_ring (p := p) hcls with ⟨hcls', -⟩ | ⟨w, hcls', hp⟩
      · exact absurd hcls' hdata
      · rw [hp, presentIndex_of_read hb hph hread, hcls']

/-! ### Index writes of a TRACKING ring (R25 to R32) -/

/-- The mask of byte `i`, where the write enables it. -/
theorem getLsbD_byteMask (c : Bool) (m : Word) (j : Nat) :
    (if c = true then m else 0).getLsbD j = (c && m.getLsbD j) := by
  cases c <;> simp

theorem getLsbD_enabledByte (w : WriteWord) (i j : Nat) :
    (enabledByte w i).getLsbD j = (w.enables.getLsbD i && decide (j < 8) && w.data.getLsbD (8 * i + j)) := by
  unfold enabledByte
  cases w.enables.getLsbD i <;> simp

/-- The written value of a fault record, bit by bit (R7). -/
theorem writtenValue_eq_recordedValue (w : WriteWord) : writtenValue w = recordedValue w := by
  apply BitVec.eq_of_getLsbD_eq
  intro j hj
  have hm0 : (0x000000FF#32).getLsbD j = decide (j < 8) := by revert j; decide
  have hm1 : (0x0000FF00#32).getLsbD j = decide (8 ≤ j ∧ j < 16) := by revert j; decide
  have hm2 : (0x00FF0000#32).getLsbD j = decide (16 ≤ j ∧ j < 24) := by revert j; decide
  have hm3 : (0xFF000000#32).getLsbD j = decide (24 ≤ j) := by revert j; decide
  simp only [writtenValue, recordedValue, BitVec.getLsbD_append, getLsbD_enabledByte, BitVec.getLsbD_and,
    BitVec.getLsbD_or, getLsbD_byteMask, hm0, hm1, hm2, hm3]
  obtain h | h | h | h : j < 8 ∨ (8 ≤ j ∧ j < 16) ∨ (16 ≤ j ∧ j < 24) ∨ 24 ≤ j := by omega
  all_goals grind

theorem presentIndex_of_write {head tail : Index} {ww : WriteWord} (hb : (s.ring r).body = some b)
    (hph : b.phase = .tracking head tail) (hx : x.transfer = .write [ww]) :
    presentIndex p r w x s = presentIndexWrite p r w b.desc head tail x.addr ww s := by
  simp only [presentIndex, hb, hph, singleWrite_of hx]

/-- A violating index write of a REFUSE or HOLD ring is charged and refused (R31). -/
theorem presentIndexWrite_of_guarded {d : Descriptor} {head tail : Index} {addr : Word} {ww : WriteWord}
    {k : ViolationKind} (hk : indexCheck d head tail w p ww = some k) (hg : d.guardMode ≠ .observe) :
    presentIndexWrite p r w d head tail addr ww s =
      refusePresented p (some (indexClass r w)) (chargeViolation r k p addr s) := by
  simp only [presentIndexWrite, hk]
  cases hm : d.guardMode with
  | observe => exact absurd hm hg
  | refuse => rfl
  | hold => rfl

/-- A violating index write of an OBSERVE ring is charged, made a fault and forwarded (R30). -/
theorem presentIndexWrite_of_observe {d : Descriptor} {head tail : Index} {addr : Word} {ww : WriteWord}
    {k : ViolationKind} (hk : indexCheck d head tail w p ww = some k) (hg : d.guardMode = .observe) :
    presentIndexWrite p r w d head tail addr ww s = forwardPresented p (indexClass r w) none
      (faultEntry r (.index k p addr (recordedValue ww)) (chargeViolation r k p addr s)) := by
  simp only [presentIndexWrite, hk, hg, writtenValue_eq_recordedValue]

/-- Settles O11: the check's verdict (`indexCheck_eq_indexVerdict`) and the guard mode decide; a fault of a ring that
holds no write leaves the ports as they are (`faultEntry_iface_of_none`). -/
theorem indexWriteChecked : Obligations.IndexWriteChecked := by
  intro s p before after e r w b head tail x h hpast hcls hb hph hx hheld
  have hcls' : classify s e.request.access = indexClass r w := by cases w <;> exact hcls
  rw [execPresentation_of_within h hpast, presentClassified_of_index hcls', presentIndex_of_write hb hph hx, hcls']
  congr 1
  rcases hv : indexVerdict b.desc head tail w p x with _ | k <;>
    rw [← indexCheck_eq_indexVerdict] at hv <;> dsimp only
  · rw [presentIndexWrite, hv]
    exact forwardPresented_cut h rfl ..
  · split
    · rename_i hg
      rw [presentIndexWrite_of_observe hv hg]
      have hnone : heldOn (chargeViolation r k p e.request.access.addr s) r = none :=
        (heldOn_congr (by simp) r).trans (hheld hg)
      exact forwardPresented_cut h ((faultEntry_iface_of_none _ hnone).1.trans (by simp)) ..
    · rename_i hg
      rw [presentIndexWrite_of_guarded hv hg]
      exact refusePresented_cut h (by simp) _

/-! ### CROSSING accesses (R55, R169) -/

/-- Where a word lies, by the ring its region belongs to. -/
theorem liesInRing_eq (s : State) (f : RingEntry → Bool) (a : Nat) :
    liesInRing s f a = ((regionAt s a).bind RegionName.ring?).any fun r => f (s.ring r) := by
  unfold liesInRing
  rcases regionAt s a with _ | n
  · rfl
  · cases n <;> rfl

/-- A refused write of the window, or of a protected region by a CROSSING access (R122, R169). -/
theorem refuseWindowWrite_eq (p : Port) (cls : AccessClass) (x : Access) (s : State) :
    refuseWindowWrite p cls x s = refusePresented p (some cls)
      (if p = s.mgmt ∧ isWrite x = true ∧ (windowBase s).toNat ∈ coveredWords x then
        raise .device s.mgmt 0b000100#6 s
      else s) := by
  simp only [refuseWindowWrite, coversWindowWord_zero]
  rfl

theorem presentCrossing_of_seeding (h : (coveredWords x).any (liesInRing s RingEntry.isSeeding) = true) :
    presentCrossing p x s = stallPresented p .crossing s := by
  rw [presentCrossing, ringsTouched_any, if_pos h]

theorem presentCrossing_of_guarded (h : (coveredWords x).any (liesInRing s RingEntry.isSeeding) = false)
    (hg : (coveredWords x).any (liesProtected s) = true) :
    presentCrossing p x s = refuseWindowWrite p .crossing x s := by
  rw [presentCrossing, ringsTouched_any, touchesProtected_eq, h, hg, if_neg Bool.false_ne_true, if_pos rfl]

/-- No word in a TRACKING ring's regions: nothing is charged (R169). -/
theorem chargedRing_none (h : (coveredWords x).all (fun a => !liesInRing s RingEntry.isTracking a) = true) :
    chargedRing s x = none := by
  have hany : ((ringsTouched s x).any fun r => (s.ring r).isTracking) = false := by
    rw [ringsTouched_any, ← Bool.not_eq_true', List.not_any_eq_all_not, h]
  exact List.find?_eq_none.2 fun r hr ht => by simpa [ht] using List.any_eq_false.1 hany r hr

/-- The TRACKING ring of the lowest word in TRACKING rings' regions is charged (R55). -/
theorem chargedRing_some {low high : List Nat} {a : Nat} (hx : coveredWords x = low ++ a :: high)
    (hlow : ∀ a' ∈ low, liesInRing s RingEntry.isTracking a' = false)
    (ha : (regionAt s a).bind RegionName.ring? = some r) (ht : (s.ring r).isTracking = true) :
    chargedRing s x = some r := by
  rw [chargedRing, ringsTouched, hx, List.filterMap_append,
    List.filterMap_cons_some (f := fun a => (regionAt s a).bind RegionName.ring?) ha]
  refine find?_cut (fun r' hr' => ?_) ht
  obtain ⟨a', ha', hr⟩ := List.mem_filterMap.1 hr'
  have hno := hlow a' ha'
  rwa [liesInRing_eq, hr] at hno

theorem presentCrossing_of_open (h : (coveredWords x).any (liesInRing s RingEntry.isSeeding) = false)
    (hg : (coveredWords x).any (liesProtected s) = false) (hc : chargedRing s x = none) :
    presentCrossing p x s = forwardPresented p .crossing none s := by
  rw [presentCrossing, ringsTouched_any, touchesProtected_eq, h, hg, if_neg Bool.false_ne_true,
    if_neg Bool.false_ne_true, hc]

theorem presentCrossing_of_charged (h : (coveredWords x).any (liesInRing s RingEntry.isSeeding) = false)
    (hg : (coveredWords x).any (liesProtected s) = false) (hc : chargedRing s x = some r)
    (hb : (s.ring r).body = some b) : presentCrossing p x s =
      if b.desc.guardMode = .observe then
        forwardPresented p .crossing none (chargeViolation r .crossing p x.addr s)
      else refusePresented p (some .crossing) (chargeViolation r .crossing p x.addr s) := by
  rw [presentCrossing, ringsTouched_any, touchesProtected_eq, h, hg, if_neg Bool.false_ne_true,
    if_neg Bool.false_ne_true, hc]
  simp only [hb, Option.any_some, beq_iff_eq]

/-- Settles O15: the four steps in their order, each with the list it leaves. -/
theorem crossingDecided : Obligations.CrossingDecided := by
  intro s p before after e h hpast hcls
  have hpresent : presentClassified p e.request.access s = presentCrossing p e.request.access s := by
    simp only [presentClassified, hcls]
  rw [execPresentation_of_within h hpast, hpresent]
  refine ⟨fun hs => ?_, fun hs hg => ?_, fun hs hg hall => ?_, fun hs hg low high a r b hx hlow ha ht hb => ?_⟩
  · rw [presentCrossing_of_seeding hs, stallPresented_cut h rfl]
  · have hports (c : Prop) [Decidable c] :
        (if c then raise .device s.mgmt 0b000100#6 s else s).ports = s.ports := by split <;> simp
    rw [presentCrossing_of_guarded hs hg, refuseWindowWrite_eq, refusePresented_cut h (hports _)]
  · rw [presentCrossing_of_open hs hg (chargedRing_none hall), forwardPresented_cut h rfl]
  · have hring : (regionAt s a).bind RegionName.ring? = some r := by
      rcases ha with ha | ⟨w, ha⟩ <;> rw [ha] <;> rfl
    rw [presentCrossing_of_charged hs hg (chargedRing_some hx hlow hring ht) hb]
    split
    · rw [forwardPresented_cut h (by simp)]
    · rw [refusePresented_cut h (by simp)]

end Sys2Proof.Machine
end

section
/-! Entry into FAULTED (R57 to R59), and the grants of port requests (R33, R34, R62, R63, R87, R114, R173) and of the
part's own accesses (R41, R126, R131): each as the state it leaves. -/

namespace Sys2Proof.Machine

variable {s : State} {p q : Port} {before after : List InFlight} {e : InFlight} {r : RingId} {b : RingBody}
  {w : IndexWord} {x : WriteWord} {head tail : Index}

/-! ### Entry into FAULTED (R57 to R59) -/

theorem faultEntry_of_tracking (cause : FaultCause) (hb : (s.ring r).body = some b)
    (hph : b.phase = .tracking head tail) :
    faultEntry r cause s = raiseRing r .fault (releaseHeldOn r (dropAppliedMarks r
      (s.setBody r (b.withPhase (.faulted { cause := cause, time := s.time } none none))))) := by
  simp only [faultEntry, hb, hph]

/-- What raising a ring kind makes of its entry and of the queues (R90, R93). -/
theorem raiseRing_eq (hb : (s.ring r).body = some b) (k : RingKind) : raiseRing r k s =
    if b.desc.mask.getLsbD (kindBit k) then
      { s with
        rings := s.rings.set r { s.ring r with
          pend := (s.ring r).pend.set b.desc.notify
            ((s.ring r).pend.get b.desc.notify ||| BitVec.ofNat 6 (2 ^ kindBit k)) }
        queues :=
          if (s.ring r).pend.get b.desc.notify = 0 then
            s.queues.set b.desc.notify (s.queues.get b.desc.notify ++ [.ring r])
          else s.queues }
    else s := by
  have h := raiseRing_setRing hb r k s
  rw [State.setRing_self] at h
  rw [h]
  split
  · rfl
  · exact State.setRing_self s r

theorem raiseRing_ring (hb : (s.ring r).body = some b) (k : RingKind) : (raiseRing r k s).ring r =
    { s.ring r with
      pend :=
        if b.desc.mask.getLsbD (kindBit k) then
          (s.ring r).pend.set b.desc.notify
            ((s.ring r).pend.get b.desc.notify ||| BitVec.ofNat 6 (2 ^ kindBit k))
        else (s.ring r).pend } := by
  rw [raiseRing_eq hb]
  split
  · exact State.ring_set_self _ _ _
  · rfl

theorem raiseRing_queues (hb : (s.ring r).body = some b) (k : RingKind) : (raiseRing r k s).queues =
    if b.desc.mask.getLsbD (kindBit k) ∧ (s.ring r).pend.get b.desc.notify = 0 then
      s.queues.set b.desc.notify (s.queues.get b.desc.notify ++ [.ring r])
    else s.queues := by
  rw [raiseRing_eq hb, ite_and]
  split <;> rfl

/-- Settles O19: the ring's entry and the queues by the raising of FAULT (`raiseRing_ring`, `raiseRing_queues`), the
ports by the release (`faultEntry_iface_of_none`, `faultEntry_iface_of_held`). -/
theorem faultEntryEffects : Obligations.FaultEntryEffects := by
  intro s r cause b hb
  refine ⟨faultEntry_of_not, fun ht => ?_⟩
  obtain ⟨head, tail, hph⟩ := (RingEntry.isTracking_iff hb).1 ht
  set broken := b.withPhase (.faulted { cause := cause, time := s.time } none none)
  set left := releaseHeldOn r (dropAppliedMarks r (s.setBody r broken)) with hleft
  have hfault : faultEntry r cause s = raiseRing r .fault left := faultEntry_of_tracking cause hb hph
  have hring : left.ring r = { s.ring r with body := some broken } := by simp [hleft]
  have hbody : (left.ring r).body = some broken := by rw [hring]
  refine ⟨faultEntry r cause s, rfl, ?_, ?_, fun r' hr => ?_, faultEntry_iface_of_none cause,
    fun p h before after e hh hl he hbefore => ?_, ?_, by simp, by simp, by simp, by simp, by simp, by simp, by simp,
    by simp⟩
  · rw [hfault, raiseRing_ring hbody, hring]
    rfl
  · rw [hfault, raiseRing_queues hbody, hring]
    have hq : left.queues = s.queues := by simp [hleft]
    rw [hq]
    rfl
  · rw [hfault, raiseRing_ring_ne _ _ hr]
    simp [hleft, State.ring_setBody_ne _ _ hr]
  · obtain ⟨hports, hholds⟩ := faultEntry_iface_of_held cause ht hh
    have hlist : (s.ports.get p).inFlight = before ++ e :: after := hl
    rw [State.inFlight, State.inFlight, hports, PerPort.get_set_self, PerPort.get_set_other, PortIface.released, hlist,
      updateFirst_cut hbefore (by simp [InFlight.isHeld, he])]
    exact ⟨hholds, rfl, rfl⟩
  · have hdrop : left.outstanding = s.outstanding.map (OutEntry.dropApplied r) := by
      simp only [hleft, releaseHeldOn_outstanding, dropAppliedMarks, State.setOutstanding_outstanding,
        State.setBody_outstanding]
    rw [hfault, raiseRing_outstanding, hdrop]
    exact congrArg (List.map · s.outstanding) (dropApplied_eq r)

/-! ### The grant of an index write of a TRACKING ring (R33, R74, R87) -/

theorem execGrant_of_port (h : GrantsPort s p before e after) : exec .grant s = .next
    (handed (drainTestSeeding (grantEffect p e (grantedEntry s p before e after))) (.port p)
      (.port p e.serial e.ring? (isApplied s e)) e.request.access) := by
  rw [exec, execGrant, arbitrate_of_grantsPort h, grantPort_cut h]

@[simp] theorem grantedEntry_ring (s : State) (p : Port) (before : List InFlight) (e : InFlight)
    (after : List InFlight) (r : RingId) : (grantedEntry s p before e after).ring r = s.ring r := rfl

@[simp] theorem grantedEntry_holds (s : State) (p : Port) (before : List InFlight) (e : InFlight)
    (after : List InFlight) : (grantedEntry s p before e after).holds = s.holds := rfl

theorem GrantsPort.mem (h : GrantsPort s p before e after) : e ∈ s.inFlight p ∧ e.isEligible = true := by
  obtain ⟨-, hl, he, -⟩ := h
  exact ⟨by simp [hl], by simp [InFlight.isEligible, he]⟩

/-- A marked entry is of its ring's index word (R32). -/
theorem TrackingSound.ring?_eq (hs : TrackingSound s) (h : GrantsPort s p before e after)
    (hm : e.mark = some (.ringIndex r w)) : e.ring? = some r := by
  obtain ⟨-, hclass, -⟩ := trackingSound_iff.1 hs
  obtain ⟨hmem, hel⟩ := h.mem
  obtain ⟨hhead, htail⟩ := hclass p e hmem hel r
  have hmark := marks_of_mark hm
  cases w with
  | head => rw [InFlight.ring?, hhead hmark]; rfl
  | tail => rw [InFlight.ring?, htail hmark]; rfl

/-- The grant of a marked index write of a TRACKING ring applies it (R33, R36). -/
theorem execGrant_of_applied (hs : TrackingSound s) (h : GrantsPort s p before e after)
    (hm : e.mark = some (.ringIndex r w)) (hx : e.request.access.transfer = .write [x])
    (ht : (s.ring r).isTracking = true) : exec .grant s = .next
      (handed (drainTestSeeding (applyIndex r w (indexOf x) (grantedEntry s p before e after))) (.port p)
        (.port p e.serial (some r) true) e.request.access) := by
  have hring := hs.ring?_eq h hm
  have happ : isApplied s e = true := by simp only [isApplied, hm, hring, Option.any_some, ht]
  have heff : grantEffect p e (grantedEntry s p before e after) =
      applyIndex r w (indexOf x) (grantedEntry s p before e after) := by
    simp only [grantEffect, singleWrite_of hx, hm, grantedEntry_ring, ht, if_true, indexOf_eq_lowHalf]
  rw [execGrant_of_port h, hring, happ, heff]

/-- What R5's invariant says of the entry granted: its advance fits, and so does the ring's fill (R26 to R28). -/
theorem TrackingSound.granted (hs : TrackingSound s) (h : GrantsPort s p before e after)
    (hb : (s.ring r).body = some b) (hph : b.phase = .tracking head tail) :
    (b.desc.slotCount ≤ 32768 ∧ distance head tail ≤ b.desc.slotCount) ∧ AdvanceFits b.desc head tail p r e := by
  obtain ⟨-, -, hbody⟩ := trackingSound_iff.1 hs
  obtain ⟨⟨hcount, hfill⟩, hfit⟩ := hbody r b hb
  have hent := hfit p e h.mem.1 h.mem.2
  simp only [EntryFits, hph] at hent
  exact ⟨⟨hcount, hfill head tail hph⟩, hent⟩

/-- The head's advance is added to the fill (R27, R33). -/
theorem TrackingSound.fill_head (hs : TrackingSound s) (h : GrantsPort s p before e after)
    (hm : e.mark = some (.ringIndex r .head)) (hx : e.request.access.transfer = .write [x])
    (hb : (s.ring r).body = some b) (hph : b.phase = .tracking head tail) :
    distance (indexOf x) tail = distance head tail + distance (indexOf x) head := by
  obtain ⟨⟨hcount, hfill⟩, hhead, -⟩ := hs.granted h hb hph
  have hadv := (hhead (marks_of_mark hm)).2
  rw [writesIndex_of (singleWrite_of hx), decide_eq_true_eq, ← indexOf_eq_lowHalf] at hadv
  rw [distance_advance_head (head := head) (by omega), Nat.add_comm]

/-- The tail's advance is taken from the fill (R28, R33). -/
theorem TrackingSound.fill_tail (hs : TrackingSound s) (h : GrantsPort s p before e after)
    (hm : e.mark = some (.ringIndex r .tail)) (hx : e.request.access.transfer = .write [x])
    (hb : (s.ring r).body = some b) (hph : b.phase = .tracking head tail) :
    distance head tail = distance head (indexOf x) + distance (indexOf x) tail := by
  obtain ⟨-, -, htail⟩ := hs.granted h hb hph
  have hadv := (htail (marks_of_mark hm)).2
  rw [writesIndex_of (singleWrite_of hx), decide_eq_true_eq, ← indexOf_eq_lowHalf] at hadv
  exact (distance_advance_tail hadv).symm

/-- A fill that rises raises FILL_HIGH alone (R87). -/
theorem markCrossing_of_le {m n : Nat} (h : m ≤ n) (r : RingId) (b : RingBody) (s : State) :
    markCrossing r b m n s = if b.highMark.any (fun k => m < k && k ≤ n) then raiseRing r .fillHigh s else s := by
  have hlow : b.lowMark.any (fun l => decide (l < m) && decide (n ≤ l)) = false := by
    cases b.lowMark with
    | none => rfl
    | some l =>
      simp only [Option.any_some, Bool.and_eq_false_iff, decide_eq_false_iff_not]
      omega
  simp only [markCrossing, hlow, Bool.false_eq_true, if_false]

/-- A fill that falls raises FILL_LOW alone (R87). -/
theorem markCrossing_of_ge {m n : Nat} (h : n ≤ m) (r : RingId) (b : RingBody) (s : State) :
    markCrossing r b m n s = if b.lowMark.any (fun l => l < m && n ≤ l) then raiseRing r .fillLow s else s := by
  have hhigh : b.highMark.any (fun k => decide (m < k) && decide (k ≤ n)) = false := by
    cases b.highMark with
    | none => rfl
    | some k =>
      simp only [Option.any_some, Bool.and_eq_false_iff, decide_eq_false_iff_not]
      omega
  simp only [markCrossing, hhigh, Bool.false_eq_true, if_false]

/-- Settles O21: the marked write is applied (`execGrant_of_applied`), and the fill rises
(`TrackingSound.fill_head`). -/
theorem headWriteApplied : Obligations.HeadWriteApplied := by
  intro s p before after e r b head tail x hs h hm hx hb hph
  have hfill := hs.fill_head h hm hx hb hph
  have ht : (s.ring r).isTracking = true := (RingEntry.isTracking_iff hb).2 ⟨head, tail, hph⟩
  refine ⟨hfill, ?_⟩
  rw [execGrant_of_applied hs h hm hx ht]
  have hle : distance head tail ≤ distance (indexOf x) tail := by omega
  simp only [applyIndex, grantedEntry_ring, hb, hph, markCrossing_of_le hle]
  rfl

theorem retestHeld_of_none (h : heldOn s r = none) : retestHeld r s = s := by
  simp only [retestHeld, h]

/-- The write held on a TRACKING ring is re-tested: it is released when its slots are free (R74). -/
theorem retestHeld_of_tracking {hold : HoldSlot} (h : heldOn s r = some (q, hold)) (hb : (s.ring r).body = some b)
    (hph : b.phase = .tracking head tail) : retestHeld r s =
      if hold.slots.all (fun k => !slotOccupied b.desc.slotCount head tail k) then releaseHeld q s else s := by
  simp only [retestHeld, h, hb, hph]

/-- A port whose granted request waited holds no write (R164). -/
theorem TrackingSound.ne_of_held (hs : TrackingSound s) (h : GrantsPort s p before e after) {f : InFlight}
    (hf : f ∈ s.inFlight q) (hheld : f.stage = .held) : q ≠ p := by
  rintro rfl
  obtain ⟨hw, -⟩ := trackingSound_iff.1 hs
  have he : e.stage = .eligible := by simpa [InFlight.isEligible] using h.mem.2
  have heq : e = f := (hw q).unique h.mem.1 hf (InFlight.isWaiting_of_isEligible h.mem.2)
    (InFlight.isWaiting_of_isHeld (by simp [InFlight.isHeld, hheld]))
  rw [heq, hheld] at he
  cases he

/-- Settles O22: the marked write is applied (`execGrant_of_applied`), its fill falls (`TrackingSound.fill_tail`), and
the held write, which is of the other port, is re-tested (`retestHeld_of_tracking`). -/
theorem tailWriteApplied : Obligations.TailWriteApplied := by
  intro s p before after e r b head tail x hs h hm hx hb hph hd fill fill' moved told done
  have hfill := hs.fill_tail h hm hx hb hph
  have ht : (s.ring r).isTracking = true := (RingEntry.isTracking_iff hb).2 ⟨head, tail, hph⟩
  have hle : distance head (indexOf x) ≤ distance head tail := by omega
  have happ : applyIndex r .tail (indexOf x) (grantedEntry s p before e after) = retestHeld r told := by
    simp only [applyIndex, grantedEntry_ring, hb, hph, markCrossing_of_ge hle]
    rfl
  have hexec : exec .grant s = .next (done (retestHeld r told)) := by
    rw [execGrant_of_applied hs h hm hx ht, happ]
  have hheld : heldOn told r = heldOn s r := heldOn_congr (by simp only [told]; split <;> simp [moved]) r
  have hbody : (told.ring r).body = some { b with phase := .tracking head (indexOf x) } := by
    simp only [told]
    split <;> simp [moved]
  refine ⟨hfill, fun hn => ?_, fun q hold l₁ l₂ f hh hl hf hl₁ => ?_⟩
  · rw [hexec, retestHeld_of_none (hheld.trans hn)]
  · have hq : q ≠ p := hs.ne_of_held h (by simp [hl]) hf
    have hlist : told.inFlight q = l₁ ++ f :: l₂ := by
      have hgranted : moved.inFlight q = s.inFlight q := State.inFlight_setInFlight_ne s _ hq
      simp only [told]
      split <;> simp [hgranted, hl]
    rw [hexec, retestHeld_of_tracking (hheld.trans hh) hbody rfl, releaseHeld_cut hlist hl₁ hf]
    simp only [slotOccupied_eq_isOccupied hd]

end Sys2Proof.Machine
end

section
/-! The grants of index writes to FAULTED rings (R34, R62, R63), of every other port request (R50, R63, R114, R168) and
of the part's own accesses (R41, R126, R127, R131, R173), and the draining test (R40, R41). -/

namespace Sys2Proof.Machine

variable {s : State} {p : Port} {before after : List InFlight} {e : InFlight} {r : RingId} {b : RingBody}
  {w : IndexWord} {x : WriteWord}

/-! ### Applied marks and index words (R33, R34, R36) -/

theorem isApplied_of_none (hm : e.mark = none) : isApplied s e = false := by
  simp only [isApplied, hm]

/-- A write of a ring that is not TRACKING carries no applied mark (R34). -/
theorem isApplied_of_not_tracking (hring : e.ring? = some r) (ht : (s.ring r).isTracking = false) :
    isApplied s e = false := by
  unfold isApplied
  split
  · rw [hring, Option.any_some, ht]
  · rfl

theorem AccessClass.indexWord?_eq_some {c : AccessClass} : c.indexWord? = some (r, w) ↔ c = indexClass r w := by
  cases c <;> cases w <;> simp [AccessClass.indexWord?, indexClass]

@[simp] theorem indexClass_ring? (r : RingId) (w : IndexWord) : (indexClass r w).ring? = some r := by
  cases w <;> rfl

/-- The ring a request's class names, class by class (R174). -/
theorem InFlight.ring?_eq (e : InFlight) : e.ring? =
    match e.cls with
    | some (.ringData r) => some r
    | some (.headWord r) => some r
    | some (.tailWord r) => some r
    | _ => none := by
  unfold InFlight.ring?
  rcases e.cls with _ | c
  · rfl
  · cases c <;> rfl

/-! ### Quiesce observations (R62, R63) -/

theorem observeIndex_of_not_faulted (h : stateNumber (s.ring r) ≠ 4) : observeIndex p r w x s = s := by
  unfold observeIndex
  rcases hb : (s.ring r).body with _ | ⟨_, _, _, ph⟩
  · rfl
  · cases ph with
    | faulted f oh ot => simp [stateNumber, hb] at h
    | _ => rfl

/-- A write that does not qualify observes nothing (R62). -/
theorem observeIndex_of_unqualified (hb : (s.ring r).body = some b)
    (h : ¬(b.desc.recovery = .quiesce ∧ b.desc.owner w = p ∧ fullWordForm x = true)) :
    observeIndex p r w x s = s := by
  simp only [observeIndex, hb, if_neg h]
  split <;> rfl

/-- The head's observation once an index word is observed (R62). -/
def observedHead (w : IndexWord) (v : Index) (oh : Option Index) : Option Index :=
  match w with
  | .head => some v
  | .tail => oh

/-- The tail's observation once an index word is observed (R62). -/
def observedTail (w : IndexWord) (v : Index) (ot : Option Index) : Option Index :=
  match w with
  | .head => ot
  | .tail => some v

/-- A qualifying write observes its index, and the ring recovers when both observations are present and equal (R62,
R63). -/
theorem observeIndex_of_qualified {fault : FaultRecord} {oh ot : Option Index} (hb : (s.ring r).body = some b)
    (hph : b.phase = .faulted fault oh ot)
    (h : b.desc.recovery = .quiesce ∧ b.desc.owner w = p ∧ fullWordForm x = true) :
    observeIndex p r w x s =
      if observedHead w (indexOf x) oh = observedTail w (indexOf x) ot then
        raiseRing r .recovered (s.setBody r (b.withPhase (.tracking (indexOf x) (indexOf x))))
      else
        s.setBody r
          (b.withPhase (.faulted fault (observedHead w (indexOf x) oh) (observedTail w (indexOf x) ot))) := by
  simp only [observeIndex, hb, hph, if_pos h]
  cases w with
  | head =>
    cases ot with
    | none => rfl
    | some t => simp only [quiesceRecovery, observedHead, observedTail, Option.some.injEq, indexOf_eq_lowHalf]
  | tail =>
    cases oh with
    | none => rfl
    | some h =>
      simp only [quiesceRecovery, observedHead, observedTail, Option.some.injEq, indexOf_eq_lowHalf]
      split
      · rename_i heq
        rw [heq]
      · rfl

/-- A write of a FAULTED ring's index word, marked or not, is observed (R34, R62). -/
theorem grantEffect_of_index (hcls : e.cls = some (indexClass r w))
    (hm : e.mark = none ∨ e.mark = some (.ringIndex r w)) (hx : e.request.access.transfer = .write [x])
    (ht : (s.ring r).isTracking = false) : grantEffect p e s = observeIndex p r w x s := by
  have hword : e.cls.bind AccessClass.indexWord? = some (r, w) := by
    rw [hcls]
    exact AccessClass.indexWord?_eq_some.2 rfl
  rcases hm with hm | hm
  · simp only [grantEffect, singleWrite_of hx, hm, hword]
  · simp only [grantEffect, singleWrite_of hx, hm, ht, Bool.false_eq_true, if_false]

/-- Settles O23: the grant of such a write observes its index (`grantEffect_of_index`), or nothing. -/
theorem quiesceObserved : Obligations.QuiesceObserved := by
  intro s p before after e r w b fault oh ot x h hcls hm hx hb hph granted oh' ot' done owner
  have hcls' : e.cls = some (indexClass r w) := by cases w <;> exact hcls
  have hring : e.ring? = some r := by rw [InFlight.ring?, hcls', Option.bind_some, indexClass_ring?]
  have ht : (s.ring r).isTracking = false := by
    rw [← Bool.not_eq_true, RingEntry.isTracking_iff hb]
    simp [hph]
  have hobserve : grantEffect p e granted = observeIndex p r w x granted := grantEffect_of_index hcls' hm hx ht
  have hexec : exec .grant s = .next (done (observeIndex p r w x granted)) := by
    rw [execGrant_of_port h, hring, isApplied_of_not_tracking hring ht, hobserve]
  have hqual : (b.desc.recovery = .quiesce ∧ b.desc.owner w = p ∧ fullWordForm x = true) ↔
      (b.desc.recovery = .quiesce ∧ p = owner ∧ x.enables = 15#4 ∧ x.data.toNat < 65536) := by
    have howner : b.desc.owner w = owner := by cases w <;> rfl
    rw [fullWordForm_iff, howner, eq_comm (a := owner)]
  have hhead : observedHead w (indexOf x) oh = oh' := by cases w <;> rfl
  have htail : observedTail w (indexOf x) ot = ot' := by cases w <;> rfl
  have hgranted : (granted.ring r).body = some b := hb
  refine ⟨fun hq => ?_, fun hq => ?_⟩
  · rw [hexec, observeIndex_of_qualified hgranted hph (hqual.2 hq), hhead, htail]
    rfl
  · rw [hexec, observeIndex_of_unqualified hgranted (mt hqual.1 hq)]

/-! ### The grant of every other port request (R34, R50, R63, R114, R168) -/

/-- A request with no mark that is no write of an index word does nothing at its grant (R173). -/
theorem grantEffect_of_plain (hm : e.mark = none)
    (h : (∀ r, e.cls ≠ some (.headWord r) ∧ e.cls ≠ some (.tailWord r)) ∨ isWrite e.request.access = false) :
    grantEffect p e s = s := by
  rcases h with h | h
  · have hword : e.cls.bind AccessClass.indexWord? = none := by
      rw [Option.eq_none_iff_forall_ne_some]
      rintro ⟨r, w⟩ hw
      obtain ⟨c, hc, hcw⟩ := Option.bind_eq_some_iff.1 hw
      obtain rfl := AccessClass.indexWord?_eq_some.1 hcw
      cases w with
      | head => exact (h r).1 hc
      | tail => exact (h r).2 hc
    unfold grantEffect
    split
    · rfl
    · simp only [hm, hword]
  · simp only [grantEffect, singleWrite_of_read h]

/-- A request of a ring that is not FAULTED, with no mark to apply, does nothing at its grant (R34, R63). -/
theorem grantEffect_of_ring (hring : e.ring? = some r) (hs : stateNumber (s.ring r) ≠ 4)
    (hm : e.mark = none ∨ (∃ w, e.mark = some (.ringIndex r w)) ∧ (s.ring r).isTracking = false) :
    grantEffect p e s = s := by
  unfold grantEffect
  split
  · rfl
  · rcases hm with hm | ⟨⟨w, hm⟩, ht⟩
    · simp only [hm]
      split
      · rename_i r' w hword
        obtain ⟨c, hc, hcw⟩ := Option.bind_eq_some_iff.1 hword
        obtain rfl := AccessClass.indexWord?_eq_some.1 hcw
        obtain rfl : r' = r := by simpa [InFlight.ring?, hc] using hring
        exact observeIndex_of_not_faulted hs
      · rfl
    · simp only [hm, ht, Bool.false_eq_true, if_false]
      exact observeIndex_of_not_faulted hs

theorem isTracking_of_stateNumber (h : stateNumber (s.ring r) ≠ 3) : (s.ring r).isTracking = false := by
  rcases hb : (s.ring r).body with _ | b
  · exact RingEntry.isTracking_of_free hb
  · rw [← Bool.not_eq_true, RingEntry.isTracking_iff hb]
    rintro ⟨head, tail, hph⟩
    simp [stateNumber, hb, hph] at h

/-- Settles O25: what the grant does besides the passage (`grantEffect_of_plain`, `grantEffect_of_ring`), with no
applied mark. -/
theorem otherPortGrants : Obligations.OtherPortGrants := by
  intro s p before after e h granted ring done
  have hring : e.ring? = ring := InFlight.ring?_eq e
  have hexec {u : State} (happ : isApplied s e = false) (heff : grantEffect p e granted = u) :
      exec .grant s = .next (done u) := by
    rw [execGrant_of_port h, happ, heff, hring]
  refine ⟨fun hm hor => ?_, fun r hm hr hst => ?_, fun r hm hr hst => ?_, fun u x hm hx hu => ?_⟩
  · exact hexec (isApplied_of_none hm) (grantEffect_of_plain hm hor)
  · have hring' : e.ring? = some r := hring.trans hr
    have hne : stateNumber (s.ring r) ≠ 3 ∧ stateNumber (s.ring r) ≠ 4 := by
      simp only [List.mem_cons, List.not_mem_nil, or_false] at hst
      omega
    have ht := isTracking_of_stateNumber hne.1
    exact hexec (isApplied_of_not_tracking hring' ht)
      (grantEffect_of_ring hring' hne.2 (hm.imp_right fun hw => ⟨hw, ht⟩))
  · have hring' : e.ring? = some r := hring.trans hr
    have hne : stateNumber (granted.ring r) ≠ 4 := by
      rw [grantedEntry_ring, hst]
      decide
    exact hexec (isApplied_of_none hm) (grantEffect_of_ring hring' hne (.inl hm))
  · have happ : isApplied s e = false := by simp only [isApplied, hm]
    have hunit : granted.units.get p = some u := hu
    refine hexec happ ?_
    simp only [grantEffect, singleWrite_of hx, hm, applyNoticeTail, hunit, indexOf_eq_lowHalf]

/-! ### The part's own accesses (R41, R126, R127, R131, R173) -/

/-- The grant of the engine's first request (R172, R173). -/
theorem execGrant_of_engine {q : EngineRequest} {rest : List EngineRequest} (h : nextGrant s = some .engine)
    (hq : s.engine.requests = q :: rest) : exec .grant s = .next
      (handed (engineGrantEffect q.kind (s.setEngine { s.engine with requests := rest })) .engine (.engine q.kind)
        q.access) := by
  simp only [exec, execGrant, arbitrate, h, grantTo, hq]
  rfl

theorem execGrant_of_notice {j : NoticeJob} (h : nextGrant s = some .notice) (hj : s.requester.job = some j) :
    exec .grant s = .next
      (handed (s.setJob (some { j with waiting := false })) .notice (.notice j.unit j.write) j.access) := by
  simp only [exec, execGrant, arbitrate, h, grantTo, hj]
  rfl

/-- The next fetch, or IDLE (R124, R127). -/
theorem fetchOrIdle_eq (s : State) : fetchOrIdle s = s.setEngine
    (if s.engine.head = s.engine.tail then { s.engine with state := .idle }
    else
      { s.engine with
        state := .fetching
        requests := s.engine.requests ++
          [{ kind := .fetch
             access :=
               { addr := windowBase s + BitVec.ofNat 32 (16 + 32 * (s.engine.tail.toNat % 32))
                 transfer := .read 8 } }] }) := by
  unfold fetchOrIdle
  split <;> rfl

/-- Settles O26: what the grant of each access does to the engine's blocks. -/
theorem partGrants : Obligations.PartGrants := by
  intro s
  refine ⟨fun k x rest h hq => ?_, fun j => execGrant_of_notice⟩
  rw [execGrant_of_engine h hq]
  refine ⟨fun hk hi => ?_, fun rp hk hst hrp => ?_, fun r b hk hb => ?_, fun hk => ?_⟩
  · subst hk
    simp only [engineGrantEffect, State.setEngine_engine, hi, if_true]
    rfl
  · subst hk
    simp only [engineGrantEffect, State.setEngine_engine, hst, hrp, fetchOrIdle_eq]
    rfl
  · subst hk
    simp only [engineGrantEffect, State.ring_setEngine, hb]
    rfl
  · simp only [List.mem_cons, List.not_mem_nil, or_false] at hk
    rcases hk with (rfl | rfl | rfl | rfl) | ⟨r, rfl⟩ <;> rfl

/-! ### Draining (R40, R41) -/

/-- A request touches a ring when its class names the ring or a word lies in the ring's regions (R40). -/
theorem touchesRing_iff (r : RingId) (d : Descriptor) (e : InFlight) : touchesRing r d e = true ↔
    e.cls ∈ [some (AccessClass.ringData r), some (.headWord r), some (.tailWord r)] ∨
      ∃ a ∈ coveredWords e.request.access, ∃ g ∈ d.regions, g.base ≤ a ∧ a < g.base + g.bytes := by
  have hcls : e.cls.bind AccessClass.ring? = some r ↔
      e.cls ∈ [some (AccessClass.ringData r), some (.headWord r), some (.tailWord r)] := by
    rcases e.cls with _ | c
    · simp
    · cases c <;> simp [AccessClass.ring?]
  simp only [touchesRing, Bool.or_eq_true, beq_iff_eq, hcls, List.any_eq_true, Region.contains, Bool.and_eq_true,
    decide_eq_true_eq]

theorem drainBlocked_iff (s : State) (r : RingId) (d : Descriptor) :
    drainBlocked s r d = true ↔ ∃ p, ∃ e ∈ eligibleEntry s p, touchesRing r d e = true := by
  simp only [drainBlocked, Bool.or_eq_true, Option.any_eq_true]
  constructor
  · rintro (h | h)
    · exact ⟨.a, h⟩
    · exact ⟨.b, h⟩
  · rintro ⟨_ | _, h⟩
    · exact .inl h
    · exact .inr h

/-- Settles O27: the test of the SEEDING ring (`drainTest_of_seeding`), in the manual's words (`drainBlocked_iff`,
`touchesRing_iff`). -/
theorem drainEnds : Obligations.DrainEnds := by
  intro s
  refine ⟨fun hn => by simp only [drainTestSeeding, hn], fun r b rec hr hb hph => ?_⟩
  intro touches
  have htest := drainTest_of_seeding hb hph
  have hblocked : drainBlocked s r b.desc = true ↔ ∃ p, ∃ e ∈ eligibleEntry s p, touches e := by
    simp only [drainBlocked_iff, touchesRing_iff, touches]
  simp only [drainTestSeeding, hr]
  refine ⟨fun hstep hfree => ?_, fun hor => ?_⟩
  · have hdrained : drainBlocked s r b.desc = false := by
      rw [← Bool.not_eq_true, hblocked]
      rintro ⟨p, e, he, ht⟩
      exact hfree p e he ht
    rw [htest, if_pos ⟨hstep, hdrained⟩]
    rfl
  · refine htest.trans (if_neg fun ⟨hstep, hdrained⟩ => ?_)
    rcases hor with hread | hblock
    · simp [hstep] at hread
    · simp [hblocked.2 hblock] at hdrained

end Sys2Proof.Machine
end

section
/-! Memory's answers to port requests (R36, R175) and to seed reads (R41 to R43), the beginning of a seeding (R37, R40),
and its end by a managing port's reset (R45, R135): each as the state it leaves. -/

namespace Sys2Proof.Machine

variable {s : State} {p : Port} {r : RingId} {b : RingBody} {rec : SeedingRecord}

/-! ### Port requests (R36, R175) -/

/-- The oldest entry, not discarded, is answered (R174). -/
theorem answered_of {isIt : Origin → Bool} {act : Origin → State → State} {o : Origin} {rest : List OutEntry}
    (h : s.outstanding = { origin := o, discarded := false } :: rest) (ho : isIt o = true) :
    answered isIt act s = act o (s.setOutstanding rest) := by
  simp only [answered, h, Bool.not_false, Bool.true_and, ho, if_true]

/-- The in-flight entry a port's list is cut at, found by its serial. -/
theorem entryWith_cut {before after : List InFlight} {e : InFlight} (hl : s.inFlight p = before ++ e :: after)
    (hb : ∀ y ∈ before, y.serial ≠ e.serial) : entryWith s p e.serial = some e := by
  rw [entryWith, hl]
  exact find?_cut (by simpa using hb) (by simp)

theorem dataFits_of {x : Access} {data : List Word} (h : ∀ len, x.transfer = .read len → data.length = len) :
    dataFits x data = true := by
  unfold dataFits
  split
  · rename_i n hx
    simpa using h n hx
  · rfl

/-- Settles O28: the entry is found by its serial (`entryWith_cut`) and becomes DONE. -/
theorem memoryAnswersPort : Obligations.MemoryAnswersPort := by
  intro s p n ring applied rest before after e status data ho hl hn hb hlen
  subst hn
  have hfind : entryWith s p e.serial = some e := entryWith_cut hl hb
  have hfind' : entryWith (s.setOutstanding rest) p e.serial = some e := hfind
  have hit : answersPort s data (.port p e.serial ring applied) = true := by
    simp only [answersPort, hfind, Option.any_some, dataFits_of hlen]
  have hchange : changeEntry p (fun e' => e'.serial == e.serial)
      (fun e' => { e' with stage := .done (busStatus status) (responseData e.request.access data) })
      (s.setOutstanding rest) = (s.setOutstanding rest).setInFlight p
        (before ++ { e with stage := .done (busStatus status) (responseData e.request.access data) } :: after) :=
    changeEntry_cut (by simpa using hl) (by simpa using hb) (by simp)
  rw [exec, execMemoryResponse, memoryAnswer, answered_of ho hit]
  simp only [answerPort, hfind', hchange]
  rfl

/-! ### Seed reads (R41 to R43) -/

/-- A seeding record with one seed filled (R41). -/
def SeedingRecord.filled (rec : SeedingRecord) (w : IndexWord) (seed : Seed) : SeedingRecord :=
  match w with
  | .head => { rec with headSeed := some seed }
  | .tail => { rec with tailSeed := some seed }

/-- The seed of the other index word. -/
def SeedingRecord.otherSeed (rec : SeedingRecord) (w : IndexWord) : Option Seed :=
  match w with
  | .head => rec.tailSeed
  | .tail => rec.headSeed

theorem execSeedResponse_eq {w : IndexWord} {rest : List OutEntry} (status : MemStatus) (word : Word)
    (h : s.outstanding = { origin := .engine (.seedRead r w), discarded := false } :: rest) :
    exec (.seedResponse status word) s = .next (fillSeed r w (seedOf status word) (s.setOutstanding rest)) := by
  rw [exec, execSeedResponse, seedAnswer, answered_of h rfl]

/-- The first seed fills its place (R41). -/
theorem fillSeed_first {w : IndexWord} {seed : Seed} (hb : (s.ring r).body = some b) (hph : b.phase = .seeding rec)
    (hstep : rec.step = .reading) (h : rec.otherSeed w = none) :
    fillSeed r w seed s = s.setBody r (b.withPhase (.seeding (rec.filled w seed))) := by
  simp only [fillSeed, hb, hph, if_pos hstep]
  cases w with
  | head =>
    have htail : rec.tailSeed = none := h
    simp only [htail, SeedingRecord.filled]
  | tail =>
    have hhead : rec.headSeed = none := h
    simp only [hhead, SeedingRecord.filled]

/-- The tail seed comes last and settles the seeding (R41, R42). -/
theorem fillSeed_last {headSeed seed : Seed} (hb : (s.ring r).body = some b) (hph : b.phase = .seeding rec)
    (hstep : rec.step = .reading) (h : rec.headSeed = some headSeed) :
    fillSeed r .tail seed s = settleSeeding r b (rec.filled .tail seed) headSeed seed s := by
  simp only [fillSeed, hb, hph, if_pos hstep, h, SeedingRecord.filled]

/-- The fill of two seeds that are full-word indices (R42, R182). -/
theorem distance_lowHalf {x y : Word} (hx : x.toNat < 65536) (hy : y.toNat < 65536) :
    distance (lowHalf x) (lowHalf y) = ahead x.toNat y.toNat := by
  rw [distance_eq_ahead, lowHalf_toNat, lowHalf_toNat, Nat.mod_eq_of_lt hx, Nat.mod_eq_of_lt hy]

/-- What makes a pair of seed words invalid, in plain numbers (R42). -/
theorem seedInvalid_iff (d : Descriptor) (x y : Word) :
    (highHalf x ≠ 0 ∨ highHalf y ≠ 0 ∨ d.slotCount < distance (lowHalf x) (lowHalf y)) ↔
      (65536 ≤ x.toNat ∨ 65536 ≤ y.toNat ∨ d.slotCount < ahead x.toNat y.toNat) := by
  simp only [ne_eq, highHalf_eq_zero, not_lt]
  by_cases hx : 65536 ≤ x.toNat
  · simp [hx]
  · by_cases hy : 65536 ≤ y.toNat
    · simp [hy]
    · rw [distance_lowHalf (by omega) (by omega)]

/-- The ports once both ports' stalled requests wait to be presented anew (R39). -/
theorem unstallAll_ports (s : State) : (unstallAll s).ports =
    { a := { s.ports.a with inFlight := s.ports.a.inFlight.map unstall }
      b := { s.ports.b with inFlight := s.ports.b.inFlight.map unstall } } := rfl

theorem unstall_eq : unstall = fun e =>
    if e.stage = .stalled then { e with stage := .queued, cls := none } else e := by
  funext e
  simp [unstall, InFlight.isStalled]

/-- A seeding the engine waits for settles: the ring leaves SEEDING, stalled requests wait to be presented anew, and the
command's report is formed (R39, R42, R43, R130). -/
theorem settleSeeding_eq {c : CurrentCommand} {headSeed tailSeed : Seed} {status : CommandStatus}
    (hwait : s.engine.state = .waiting (.seeding r)) (hcur : s.engine.current = some c)
    (hstatus : seedingStatus b.desc rec.peerReset headSeed tailSeed = status) :
    settleSeeding r b rec headSeed tailSeed s =
      { unstallAll (s.setBody r (b.withPhase (settledPhase status rec.purpose headSeed tailSeed))) with
        engine := reporting s c status c.words.params } := by
  subst hstatus
  set left := unstallAll (s.setBody r (b.withPhase
    (settledPhase (seedingStatus b.desc rec.peerReset headSeed tailSeed) rec.purpose headSeed tailSeed))) with hleft
  have hengine : left.engine = s.engine := by simp [hleft]
  have hbase : left.ctlBase = s.ctlBase := by simp [hleft]
  have hcur' : left.engine.current = some c := by rw [hengine, hcur]
  have hwait' : left.engine.state = .waiting (.seeding r) := by rw [hengine, hwait]
  have hparams : fetchedParams left = c.words.params := by simp only [fetchedParams, hcur']
  simp only [settleSeeding, ← hleft, settleWait, if_pos hwait', hparams, report_of_current hcur',
    reporting_congr hengine hbase]

/-- Settles O30: a first seed fills its place (`fillSeed_first`); the tail seed settles the seeding (`fillSeed_last`,
`settleSeeding_eq`) by the tests of R42 in plain numbers (`seedInvalid_iff`). -/
theorem seedsSettle : Obligations.SeedsSettle := by
  refine ⟨fun s r w rest b rec status word ho hb hph hstep hother => ?_,
    fun s r rest b rec c headSeed status word ho hb hph hstep hhead hwait hcur => ?_⟩
  · have hother' : rec.otherSeed w = none := by cases w <;> exact hother
    have hb' : ((s.setOutstanding rest).ring r).body = some b := hb
    rw [execSeedResponse_eq status word ho, fillSeed_first hb' hph hstep hother']
    cases w <;> cases status <;> rfl
  · intro verdict phase queuedAgain
    have hverdict : seedingStatus b.desc rec.peerReset headSeed (seedOf status word) = verdict := by
      simp only [verdict]
      rcases headSeed with x | _ <;> cases status <;> simp only [seedingStatus, seedOf, seedInvalid_iff]
    have hphase : settledPhase verdict rec.purpose headSeed (seedOf status word) = phase := by
      rcases headSeed with x | _ <;> cases status
      · simp only [phase]
        cases verdict <;> rfl
      all_goals rfl
    have hb' : ((s.setOutstanding rest).ring r).body = some b := hb
    have hwait' : (s.setOutstanding rest).engine.state = .waiting (.seeding r) := hwait
    have hagain : queuedAgain = unstall := unstall_eq.symm
    rw [execSeedResponse_eq status word ho, fillSeed_last hb' hph hstep hhead,
      settleSeeding_eq (rec := rec.filled .tail _) hwait' hcur hverdict, hagain, ← hphase]
    rfl

/-! ### The beginning of a seeding (R37, R40, R144, R147) -/

theorem drainTest_of_draining (hb : (s.ring r).body = some b) (hph : b.phase = .seeding rec)
    (hstep : rec.step = .draining) : drainTest r s =
      if drainBlocked s r b.desc = false then
        presentEngine (seedRead r b.desc .head) (s.setBody r (b.withPhase (.seeding { rec with step := .reading })))
      else s := by
  simp only [drainTest_of_seeding hb hph, hstep, true_and]

theorem State.setBody_setBody (s : State) (r : RingId) (b b' : RingBody) :
    (s.setBody r b).setBody r b' = s.setBody r b' := by
  simp [State.setBody, State.setRing, State.ring]

/-- The record a seeding begins with (R37). -/
def SeedingRecord.begun (purpose : SeedPurpose) (step : SeedStep) (s : State) : SeedingRecord :=
  { purpose := purpose, step := step, peerReset := s.portReset.a || s.portReset.b, headSeed := none, tailSeed := none }

/-- A seeding that has something to drain begins in step DRAINING (R37, R40). -/
theorem beginSeeding_of_blocked (purpose : SeedPurpose) (h : drainBlocked s r b.desc = true) :
    beginSeeding r b purpose s =
      (s.setBody r (b.withPhase (.seeding (.begun purpose .draining s)))).setEngine
        (waitingFor s (.seeding r) []) := by
  set t := (s.setBody r (b.withPhase (.seeding (.begun purpose .draining s)))).setEngine
    { s.engine with state := .waiting (.seeding r) } with ht
  have hbody : (t.ring r).body = some (b.withPhase (.seeding (.begun purpose .draining s))) := by simp [ht]
  have hblocked : drainBlocked t r b.desc = true := (drainBlocked_congr rfl r b.desc).trans h
  calc beginSeeding r b purpose s = drainTest r t := rfl
    _ = t := (drainTest_of_draining hbody rfl rfl).trans (if_neg (by simp [RingBody.withPhase, hblocked]))
    _ = _ := by rw [waitingFor, List.append_nil]

/-- A seeding that has nothing to drain begins in step READING, its head seed read presented (R37, R40, R41). -/
theorem beginSeeding_of_drained (purpose : SeedPurpose) (h : drainBlocked s r b.desc = false) :
    beginSeeding r b purpose s =
      (s.setBody r (b.withPhase (.seeding (.begun purpose .reading s)))).setEngine
        (waitingFor s (.seeding r) [seedRead r b.desc .head]) := by
  set t := (s.setBody r (b.withPhase (.seeding (.begun purpose .draining s)))).setEngine
    { s.engine with state := .waiting (.seeding r) } with ht
  have hbody : (t.ring r).body = some (b.withPhase (.seeding (.begun purpose .draining s))) := by simp [ht]
  have hblocked : drainBlocked t r b.desc = false := (drainBlocked_congr rfl r b.desc).trans h
  have hset : t.setBody r (b.withPhase (.seeding (.begun purpose .reading s))) =
      (s.setBody r (b.withPhase (.seeding (.begun purpose .reading s)))).setEngine t.engine :=
    congrArg (·.setEngine t.engine) (State.setBody_setBody ..)
  calc beginSeeding r b purpose s = drainTest r t := rfl
    _ = presentEngine (seedRead r b.desc .head)
          (t.setBody r (b.withPhase (.seeding (.begun purpose .reading s)))) :=
        (drainTest_of_draining hbody rfl rfl).trans (if_pos hblocked)
    _ = _ := by rw [hset]; rfl

/-- Settles O35: the command begins the seeding of the ring it names, with or without something to drain
(`beginSeeding_of_blocked`, `beginSeeding_of_drained`). -/
theorem seedingBegins : Obligations.SeedingBegins := by
  intro s c r b hb drained begun
  obtain ⟨-, hdefined, -, hfaulted, -⟩ := allowed_of_stateNumber (s.ring r)
  have hbegin (purpose : SeedPurpose) : beginSeeding r b purpose s = begun purpose := by
    cases hd : drainBlocked s r b.desc with
    | false => rw [beginSeeding_of_drained purpose hd]; simp only [begun, drained, hd]; rfl
    | true => rw [beginSeeding_of_blocked purpose hd]; simp only [begun, drained, hd]; rfl
  refine ⟨fun h hph => ?_, fun f oh ot h hph => ?_⟩
  · have hst : stateNumber (s.ring r) = 1 := by simp only [stateNumber, hb, hph]
    rw [exec, execArmRing, h.performing rfl, h.ringCommand (hdefined hst)]
    simp only [onBody, hb, hbegin]
  · have hst : stateNumber (s.ring r) = 4 := by simp only [stateNumber, hb, hph]
    rw [exec, execClearFault, h.performing rfl, h.ringCommand (hfaulted hst)]
    simp only [onBody, hb, hph, hbegin]

end Sys2Proof.Machine
end

section
/-! The reset of the managing port: the notice units and the engine it leaves, and the seeding it abandons (R45,
R107, R108, R135). -/

namespace Sys2Proof.Machine

variable {s : State} {p : Port} {r : RingId} {b : RingBody} {rec : SeedingRecord}

/-! ### The steps before the last -/

/-- The flag is set in the record of a seeding that goes on to the last step (R19, R44). -/
theorem resetSteps_ring_body_of_seeding (p : Port) (hb : (s.ring r).body = some b) (hph : b.phase = .seeding rec) :
    ((resetSteps p s).ring r).body = some (b.withPhase (.seeding { rec with peerReset := true })) := by
  rw [resetSteps_ring_body, hb, Option.map_some, RingBody.peerFaulted_of_not (by simp [hph])]
  simp only [RingBody.flagPeerReset, hph]

@[simp] theorem faultTracking_units (s : State) : (faultTracking s).units = s.units := by
  have hfold (l : List RingId) (u : State) :
      (l.foldl (fun t r => faultEntry r .peerReset t) u).units = u.units := by
    induction l generalizing u with
    | nil => rfl
    | cons r l ih => rw [List.foldl_cons, ih, faultEntry_units]
  exact hfold ..

@[simp] theorem unitOff_units (p : Port) (s : State) : (unitOff p s).units = s.units.set p none := rfl

@[simp] theorem resetUnit_units (p : Port) (s : State) : (resetUnit p s).units = s.units.set p none := by
  unfold resetUnit
  dsimp only
  split <;> simp

/-- The reset port's unit is OFF, the other port's is as it was (R119). -/
theorem resetSteps_units (p : Port) (s : State) : (resetSteps p s).units = s.units.set p none := by
  simp [resetSteps, clearPortNotices, discardRequests, setPortReset]

/-! ### The engine and the units at the managing port's reset (R107, R108, R135) -/

@[simp] theorem abandonUnitWait_engine (s : State) : (abandonUnitWait s).engine = s.engine := by
  unfold abandonUnitWait
  split <;> simp

@[simp] theorem abandonSeeding_units (s : State) : (abandonSeeding s).units = s.units := by
  rcases abandonSeeding_cases s with ⟨h, -⟩ | ⟨r, b, rec, -, -, -, h⟩ <;> rw [h]
  simp

/-- A unit being set up goes OFF (R107). -/
theorem abandonUnitWait_units_of_setup {u : Port} (h : s.engine.state = .waiting (.setup u)) :
    (abandonUnitWait s).units.get u = none := by
  simp [abandonUnitWait, h]

/-- A closing unit runs on with its flag clear (R108). -/
theorem abandonUnitWait_units_of_noticeOff {u : Port} (h : s.engine.state = .waiting (.noticeOff u)) :
    (abandonUnitWait s).units.get u = (s.units.get u).map NoticeUnit.stopClosing := by
  simp [abandonUnitWait, h]

/-- The engine starts anew with the initialisation burst (R135). -/
theorem reinitEngine_engine (h : s.engine.state ≠ .init) : (reinitEngine s).engine =
    { Engine.powerOn with
      requests := [{ kind := .initBurst, access := fullWrite (windowBase s) [0, 0, 0, 0] }] } := by
  rw [reinitEngine, if_neg h]
  rfl

/-- The responses of the engine's granted accesses are discarded (R135). -/
theorem reinitEngine_discards (h : s.engine.state ≠ .init) {o : OutEntry} (ho : o ∈ (reinitEngine s).outstanding)
    {k : EngineAccess} (hk : o.origin = .engine k) : o.discarded = true := by
  rw [reinitEngine, if_neg h] at ho
  obtain ⟨⟨origin, d⟩, -, rfl⟩ := List.mem_map.1 ho
  cases origin with
  | engine k => rfl
  | port p n ring applied => cases hk
  | notice u w => cases hk

/-! ### What the managing port's reset leaves -/

theorem portResetEnd_of_mgmt (s : State) :
    portResetEnd s.mgmt s = reinitEngine (abandonUnitWait (abandonSeeding (resetSteps s.mgmt s))) := if_pos rfl

theorem abandonedWait_engine (s : State) :
    (abandonUnitWait (abandonSeeding (resetSteps s.mgmt s))).engine = s.engine := by
  simp [resetSteps_engine]

theorem abandonedWait_windowBase (s : State) :
    windowBase (abandonUnitWait (abandonSeeding (resetSteps s.mgmt s))) = windowBase s := by
  have haside := (Aside.resetSteps (p := s.mgmt) (s := s)).trans (Aside.abandonSeeding.trans .abandonUnitWait)
  rw [windowBase, haside.ctlBase]
  rfl

/-- The seeding abandoned: its ring is where its command found it, but for the fault kind (R45). -/
theorem portResetEnd_ring_of_seeding (hr : seedingRing s = some r) (hb : (s.ring r).body = some b)
    (hph : b.phase = .seeding rec) :
    ((portResetEnd s.mgmt s).ring r).body = some (b.withPhase rec.purpose.abandoned) := by
  have hbody := resetSteps_ring_body_of_seeding s.mgmt hb hph
  have hseed := resetSteps_seedingRing s.mgmt s
  rw [portResetEnd_of_mgmt, reinitEngine_ring, State.ring_congr (abandonUnitWait_rings _)]
  rcases abandonSeeding_cases (resetSteps s.mgmt s) with ⟨-, hn⟩ | ⟨r', b', rec', hr', hb', hph', h⟩
  · simp [hseed, hr] at hn
  · obtain rfl : r' = r := Option.some.inj (hr'.symm.trans (hseed.trans hr))
    obtain rfl := Option.some.inj (hb'.symm.trans hbody)
    obtain rfl : { rec with peerReset := true } = rec' := by simpa [RingBody.withPhase] using hph'
    rw [h, unstallAll_ring, State.ring_setBody_self]
    rfl

/-- No request of the other port is left STALLED when a seeding is abandoned (R39). -/
theorem portResetEnd_not_stalled (hs : ∃ r, (s.ring r).isSeeding = true) {q : Port} {x : InFlight}
    (hx : x ∈ (portResetEnd s.mgmt s).inFlight q) : x.isStalled = false := by
  rw [State.inFlight, portResetEnd_ports] at hx
  obtain ⟨y, hy, rfl⟩ := List.mem_map.1 hx
  obtain ⟨z, -, rfl⟩ := List.mem_map.1 hy
  have hz : (requeuedWhen (s.mgmt = s.mgmt ∧ ∃ r, (s.ring r).isSeeding = true) z).stage ≠ .stalled := by
    by_cases hst : z.stage = .stalled <;> simp [requeuedWhen, hs, hst]
  unfold unmarkedWhen
  split <;> simpa [InFlight.isStalled] using hz

/-- Settles O7: the engine starts anew (`reinitEngine_engine`, `reinitEngine_discards`), the seeding is abandoned
(`portResetEnd_ring_of_seeding`, `portResetEnd_not_stalled`), and the command's unit is let go. -/
theorem managingResetReinitialises : Obligations.ManagingResetReinitialises := by
  intro s hp hr hne
  have hend := portResetEnd_of_mgmt s
  have hengine := abandonedWait_engine s
  have hne' : (abandonUnitWait (abandonSeeding (resetSteps s.mgmt s))).engine.state ≠ .init := by rwa [hengine]
  have hwait : (abandonSeeding (resetSteps s.mgmt s)).engine = s.engine := by simp [resetSteps_engine]
  refine ⟨portResetEnd s.mgmt s, execPortResetAssert_eq hp hr, ?_, fun o ho k hk => ?_,
    fun r b rec hseed hb hph => ⟨?_, fun x hx => ?_⟩, fun u hu => ?_, fun u n rec hu hum hn hph => ?_⟩
  · rw [hend, reinitEngine_engine hne', abandonedWait_windowBase]
    rfl
  · rw [hend] at ho
    exact reinitEngine_discards hne' ho hk
  · rw [portResetEnd_ring_of_seeding hseed hb hph]
    cases rec.purpose <;> rfl
  · exact portResetEnd_not_stalled ⟨r, isSeeding_of_seedingRing hseed⟩ hx
  · rw [hend, reinitEngine_units]
    exact abandonUnitWait_units_of_setup (by rw [hwait, hu])
  · rw [hend, reinitEngine_units, abandonUnitWait_units_of_noticeOff (by rw [hwait, hu]), abandonSeeding_units,
      resetSteps_units, PerPort.get_set_ne _ _ hum, hn]
    simp only [Option.map_some, NoticeUnit.stopClosing, hph]

end Sys2Proof.Machine
end

section
/-! The data area of a TRACKING ring (R46 to R54, R72, R73): what the checker does with each verdict of the occupancy
rule, by guard mode. -/

namespace Sys2Proof.Machine

variable {s : State} {p : Port} {r : RingId} {d : Descriptor} {x : Access} {k : ViolationKind}

/-! ### The verdict -/

theorem presentClassified_of_data (h : classify s x = .ringData r) :
    presentClassified p x s = presentData p r x s := by
  simp only [presentClassified, h]

/-- The slots a hold records, by the words the access covers (R1, R72). -/
theorem slotsTouched_eq (d : Descriptor) (x : Access) :
    slotsTouched d x = ((coveredWords x).map (slotAt d)).dedup :=
  congrArg (fun f => ((coveredWords x).map f).dedup) (funext (slotOf_eq_slotAt d))

section
variable {b : RingBody} {head tail : Index} (hb : (s.ring r).body = some b) (hph : b.phase = .tracking head tail)
include hb hph

/-- An admissible access is forwarded (R50). -/
theorem presentData_of_admissible (hk : occupancyCheck b.desc head tail p x = none) :
    presentData p r x s = forwardPresented p (.ringData r) none s := by
  simp only [presentData, hb, hph, hk]

theorem presentData_of_violation (hk : occupancyCheck b.desc head tail p x = some k) :
    presentData p r x s = presentDataViolation p r b.desc k x s := by
  simp only [presentData, hb, hph, hk]

end

/-! ### Violations by guard mode (R51, R52, R54, R72, R73) -/

theorem presentDataViolation_of_observe (hg : d.guardMode = .observe) : presentDataViolation p r d k x s =
    forwardPresented p (.ringData r) none (chargeViolation r k p x.addr s) := by
  simp only [presentDataViolation, hg]

/-- A violation that is no hold candidate is refused outside OBSERVE (R52, R54). -/
theorem presentDataViolation_of_guarded (hg : d.guardMode ≠ .observe) (hk : ¬(d.guardMode = .hold ∧ k = .overwrite)) :
    presentDataViolation p r d k x s =
      refusePresented p (some (.ringData r)) (chargeViolation r k p x.addr s) := by
  cases hm : d.guardMode with
  | observe => exact absurd hm hg
  | refuse => simp only [presentDataViolation, hm]
  | hold =>
    have hne : k ≠ .overwrite := fun h => hk ⟨hm, h⟩
    simp only [presentDataViolation, hm, if_neg hne]

theorem presentDataViolation_of_candidate (hg : d.guardMode = .hold) :
    presentDataViolation p r d .overwrite x s = presentCandidate p r d x s := by
  simp only [presentDataViolation, hg, if_true]

/-- A candidate is held, uncounted, while the other port holds none (R72). -/
theorem presentCandidate_of_empty (h : s.holds.get (other p) = none) : presentCandidate p r d x s =
    holdPresented p (.ringData r)
      { ring := r, slots := ((coveredWords x).map (slotAt d)).dedup, first := x.addr, start := s.time } s := by
  simp only [presentCandidate, h, slotsTouched_eq]

/-- A candidate is refused as HOLD_CONFLICT while the other port holds a write (R73). -/
theorem presentCandidate_of_holding (h : s.holds.get (other p) ≠ none) : presentCandidate p r d x s =
    refusePresented p (some (.ringData r)) (chargeViolation r .holdConflict p x.addr s) := by
  obtain ⟨hold, hh⟩ := Option.ne_none_iff_exists'.1 h
  simp only [presentCandidate, hh]

/-- Settles O12: the occupancy rule's verdict (`occupancyCheck_eq_occupancyVerdict`), the guard mode and, for a
candidate, the other port's hold slot decide; each outcome with the list it leaves. -/
theorem dataAccessChecked : Obligations.DataAccessChecked := by
  intro s p before after e r b head tail h hpast hcls hb hph hd
  have hcheck := occupancyCheck_eq_occupancyVerdict hd head tail p e.request.access (coveredWords_ne_nil hcls)
  rw [execPresentation_of_within h hpast, presentClassified_of_data hcls]
  dsimp only
  congr 1
  rcases hv : occupancyVerdict b.desc head tail p e.request.access with _ | k <;> rw [hv] at hcheck <;> dsimp only
  · rw [presentData_of_admissible hb hph hcheck]
    exact forwardPresented_cut h rfl ..
  · rw [presentData_of_violation hb hph hcheck]
    split_ifs with hobserve hcandidate hempty
    · rw [presentDataViolation_of_observe hobserve]
      exact forwardPresented_cut h (by simp) ..
    · obtain ⟨hhold, rfl⟩ := hcandidate
      rw [presentDataViolation_of_candidate hhold, presentCandidate_of_empty hempty]
      exact holdPresented_cut h rfl ..
    · obtain ⟨hhold, rfl⟩ := hcandidate
      rw [presentDataViolation_of_candidate hhold, presentCandidate_of_holding hempty]
      exact refusePresented_cut h (by simp) _
    · rw [presentDataViolation_of_guarded hobserve hcandidate]
      exact refusePresented_cut h (by simp) _

end Sys2Proof.Machine
end

section
/-! SET_GUARD (R65, R79 to R81, R149, R150): its parameters as numbers, the write held on the ring under the new guard
mode, and the report over the state it leaves. -/

namespace Sys2Proof.Machine

variable {s : State} {c : CurrentCommand} {r : RingId} {b : RingBody} {g : GuardMode} {rcv : Recovery} {w : Params}

/-! ### The parameters (R149, 10.1) -/

theorem guardNumber_le (g : GuardMode) : guardNumber g ≤ 2 := by cases g <;> decide

theorem recoveryNumber_le (rcv : Recovery) : recoveryNumber rcv ≤ 1 := by cases rcv <;> decide

theorem parseGuard_eq_some {l : Nat} : parseGuard w = some (g, l, rcv) ↔
    w.w2.toNat = guardNumber g ∧ ((1 ≤ w.w3.toNat ∧ w.w3.toNat ≤ 65535) ∧ w.w3.toNat = l) ∧
      w.w4.toNat = recoveryNumber rcv := by
  simp only [parseGuard, Option.bind_eq_bind, Option.bind_eq_some_iff, guardOfField_eq_some, limitOfField_eq_some,
    recoveryOfField_eq_some, Option.pure_def, Option.some.injEq, Prod.mk.injEq]
  constructor
  · rintro ⟨g, hg, l, hl, rcv, hr, rfl, rfl, rfl⟩
    exact ⟨hg, hl, hr⟩
  · rintro ⟨hg, hl, hr⟩
    exact ⟨g, hg, _, hl, rcv, hr, rfl, rfl, rfl⟩

/-- An undefined value in any of the three fields is BAD_FIELD (R149). -/
theorem parseGuard_eq_none
    (h : ¬(w.w2.toNat ≤ 2 ∧ (1 ≤ w.w3.toNat ∧ w.w3.toNat ≤ 65535) ∧ w.w4.toNat ≤ 1)) : parseGuard w = none :=
  Option.eq_none_iff_forall_ne_some.2 fun ⟨g, _, rcv⟩ hp => by
    obtain ⟨hg, ⟨hl, -⟩, hr⟩ := parseGuard_eq_some.1 hp
    exact h ⟨hg ▸ guardNumber_le g, hl, hr ▸ recoveryNumber_le rcv⟩

/-! ### The held write (R79, R80, R81) -/

theorem settleHeldByGuard_of_kept (h : heldOn s r = none ∨ g = .hold) : settleHeldByGuard r g s = s := by
  unfold settleHeldByGuard
  rcases h with hn | rfl
  · rw [hn]
  · split <;> rfl

/-- Outside HOLD the held write is released or refused by the new mode, and charged as OVERWRITE (R80, R81). -/
theorem settleHeldByGuard_cut {p : Port} {h : HoldSlot} {before after : List InFlight} {e : InFlight}
    (hh : heldOn s r = some (p, h)) (hl : s.inFlight p = before ++ e :: after)
    (hb : ∀ y ∈ before, y.isHeld = false) (he : e.stage = .held) (hg : g ≠ .hold) :
    settleHeldByGuard r g s = chargeViolation r .overwrite p h.first
      ((s.setHold p none).setInFlight p
        (before ++ { e with stage := if g = .observe then .eligible else refusedStage e.request.access } :: after)) := by
  cases g with
  | observe => simp only [settleHeldByGuard, hh, releaseHeld_cut hl hb he, if_true]
  | refuse => simp only [settleHeldByGuard, hh, refuseHeld_cut hl hb he, InFlight.refuse_eq, reduceCtorEq, if_false]
  | hold => exact absurd rfl hg

@[simp] theorem settleHeldByGuard_ctlBase (r : RingId) (g : GuardMode) (s : State) :
    (settleHeldByGuard r g s).ctlBase = s.ctlBase := by
  unfold settleHeldByGuard
  split
  · rfl
  · cases g <;> simp

/-! ### The command (R149, R150) -/

/-- The ring's body under the new guard mode, hold limit and recovery (R65, R149). -/
def RingBody.withGuard (b : RingBody) (g : GuardMode) (limit : Nat) (rcv : Recovery) : RingBody :=
  { b with
    desc := { b.desc with guardMode := g, holdLimit := limit, recovery := rcv }
    phase := phaseAfterGuard b.desc.recovery rcv b.phase }

section
variable (h : Executes s 7 r.val c) (hb : (s.ring r).body = some b) (hs : stateNumber (s.ring r) ∈ [1, 3, 4])
include h hb hs

theorem execSetGuard_of_none (hp : parseGuard c.words.params = none) :
    exec .setGuard s = .next { s with engine := reporting s c .badField c.words.params } := by
  obtain ⟨-, -, -, -, hallowed⟩ := allowed_of_stateNumber (s.ring r)
  rw [exec, execSetGuard, h.performing rfl, h.ringCommand (hallowed hs)]
  simp only [onBody, hb, hp]
  exact congrArg Host.Outcome.next (h.finish s .badField rfl rfl)

/-- SET_GUARD, over the state in which the held write is settled. -/
theorem execSetGuard_of_some {limit : Nat} {u : State} (hp : parseGuard c.words.params = some (g, limit, rcv))
    (hu : settleHeldByGuard r g (s.setBody r (b.withGuard g limit rcv)) = u) :
    exec .setGuard s = .next { u with engine := reporting s c .ok c.words.params } := by
  obtain ⟨-, -, -, -, hallowed⟩ := allowed_of_stateNumber (s.ring r)
  rw [exec, execSetGuard, h.performing rfl, h.ringCommand (hallowed hs), ← hu]
  simp only [onBody, hb, hp]
  exact congrArg Host.Outcome.next (h.finish _ .ok (by simp) (by simp))

end

/-- Settles O38: the parameters are read or refused (`parseGuard_eq_some`, `parseGuard_eq_none`), and the write held
on the ring stays (`settleHeldByGuard_of_kept`) or is settled (`settleHeldByGuard_cut`). -/
theorem setGuardResult : Obligations.SetGuardResult := by
  intro s c r b h hb hs
  refine ⟨fun hbad => execSetGuard_of_none h hb hs (parseGuard_eq_none hbad), ?_⟩
  intro g rcv hg hl hr body stored done
  have hp := parseGuard_eq_some.2 ⟨hg, ⟨hl, rfl⟩, hr⟩
  have hbody : b.withGuard g c.words.params.w3.toNat rcv = body := by
    simp only [RingBody.withGuard, body]
    cases b.phase <;> rfl
  have hstored : s.setBody r (b.withGuard g c.words.params.w3.toNat rcv) = stored := by rw [hbody]; rfl
  have hheld : heldOn stored r = heldOn s r := heldOn_congr rfl r
  refine ⟨fun hkept => ?_, fun p hold before after e hh hin he hbefore hne => ?_⟩
  · have hu := settleHeldByGuard_of_kept (g := g) (hheld.symm ▸ hkept)
    exact execSetGuard_of_some h hb hs hp (hstored ▸ hu)
  · have hu := settleHeldByGuard_cut (hheld.trans hh) hin hbefore he hne
    exact execSetGuard_of_some h hb hs hp (hstored ▸ hu)

end Sys2Proof.Machine
end

section
/-! SUPPORT. The order of a port's requests (R162, R164, R166, R174), list by list: what presenting, granting, holding,
releasing, refusing and answering one entry keep of it. -/

namespace Sys2Proof.Machine

variable {l before after : List InFlight} {e e' : InFlight} {n : Nat} {owed : List Nat} {test : InFlight → Bool}
  {f : InFlight → InFlight}

/-! ### An entry's place -/

theorem InFlight.rank_eq_two_iff : e.rank = 2 ↔ e.isQueued = true := by
  unfold InFlight.rank
  split
  · simp_all
  · split <;> simp_all

theorem InFlight.rank_eq_one_iff : e.rank = 1 ↔ e.isWaiting = true := by
  cases h : e.stage <;> simp [InFlight.rank, InFlight.isWaiting, InFlight.isQueued, InFlight.isStalled,
    InFlight.isEligible, InFlight.isHeld, h]

theorem InFlight.rank_of_isGranted (h : e.isGranted = true) : e.rank = 0 := by
  have hs : e.stage = .granted := by simpa [InFlight.isGranted] using h
  simp [InFlight.rank, InFlight.isWaiting, InFlight.isQueued, InFlight.isStalled, InFlight.isEligible,
    InFlight.isHeld, hs]

theorem InFlight.rank_le_two (e : InFlight) : e.rank ≤ 2 := by
  unfold InFlight.rank
  split
  · exact le_rfl
  · split <;> decide

theorem InFlight.isGranted_of_rank_pos (h : 0 < e.rank) : e.isGranted = false :=
  Bool.not_eq_true _ ▸ fun hg => h.ne' (InFlight.rank_of_isGranted hg)

theorem InFlight.isGranted_of_isWaiting (h : e.isWaiting = true) : e.isGranted = false :=
  InFlight.isGranted_of_rank_pos (by rw [InFlight.rank_eq_one_iff.2 h]; decide)

theorem InFlight.isGranted_of_isQueued (h : e.isQueued = true) : e.isGranted = false :=
  InFlight.isGranted_of_rank_pos (by rw [InFlight.rank_eq_two_iff.2 h]; decide)

/-! ### Lists in order -/

/-- What `AnswersInOrder` asks of one port's in-flight list, its next serial `n`, and the serials memory owes it. -/
structure ListInOrder (l : List InFlight) (n : Nat) (owed : List Nat) : Prop where
  once : OnceWaiting l
  ranks : (l.map InFlight.rank).Pairwise (· ≤ ·)
  serials : (l.map (·.serial)).Pairwise (· < ·)
  fresh : ∀ e ∈ l, e.serial < n
  granted : (l.filter InFlight.isGranted).map (·.serial) = owed

/-- The place between the entries granted or answered and those not yet presented. -/
structure AtTurn (before after : List InFlight) : Prop where
  passed : ∀ x ∈ before, x.rank = 0
  toCome : ∀ y ∈ after, y.rank = 2

theorem ListInOrder.ranks_cut (h : ListInOrder (before ++ e :: after) n owed) :
    (∀ x ∈ before, x.rank ≤ e.rank) ∧ ∀ y ∈ after, e.rank ≤ y.rank := by
  have hr := h.ranks
  simp only [List.map_append, List.map_cons, List.pairwise_append, List.pairwise_cons, List.forall_mem_map,
    List.mem_cons, forall_eq_or_imp] at hr
  exact ⟨fun x hx => (hr.2.2 x hx).1, hr.2.1.1⟩

/-- Beside an entry that waits no other does. -/
theorem OnceWaiting.alone (h : OnceWaiting (before ++ e :: after)) (he : e.isWaiting = true) :
    ∀ x ∈ before ++ after, x.isWaiting = false := by
  have hlen := h.1
  simp only [List.filter_append, List.filter_cons_of_pos he, List.length_append, List.length_cons] at hlen
  have hnil : (before ++ after).filter InFlight.isWaiting = [] := by
    rw [List.filter_append]
    exact List.eq_nil_of_length_eq_zero (by rw [List.length_append]; omega)
  simpa using List.filter_eq_nil_iff.1 hnil

/-- Where the entry that waits stands. -/
theorem ListInOrder.atTurn_of_isWaiting (h : ListInOrder (before ++ e :: after) n owed) (he : e.isWaiting = true) :
    AtTurn before after := by
  obtain ⟨hb, ha⟩ := h.ranks_cut
  have hw := h.once.alone he
  rw [InFlight.rank_eq_one_iff.2 he] at hb ha
  refine ⟨fun x hx => ?_, fun y hy => ?_⟩
  · have := hb x hx
    have : x.rank ≠ 1 := mt InFlight.rank_eq_one_iff.1 (by simp [hw x (by simp [hx])])
    omega
  · have := ha y hy
    have := y.rank_le_two
    have : y.rank ≠ 1 := mt InFlight.rank_eq_one_iff.1 (by simp [hw y (by simp [hy])])
    omega

/-- Where the oldest QUEUED entry stands while none waits. -/
theorem ListInOrder.atTurn_of_isQueued (h : ListInOrder (before ++ e :: after) n owed)
    (hw : ∀ x ∈ before ++ e :: after, x.isWaiting = false) (hb : ∀ x ∈ before, x.isQueued = false)
    (he : e.isQueued = true) : AtTurn before after := by
  have ha := h.ranks_cut.2
  rw [InFlight.rank_eq_two_iff.2 he] at ha
  refine ⟨fun x hx => ?_, fun y hy => le_antisymm y.rank_le_two (ha y hy)⟩
  have h1 : x.rank ≠ 1 := mt InFlight.rank_eq_one_iff.1 (by simp [hw x (by simp [hx])])
  have h2 : x.rank ≠ 2 := mt InFlight.rank_eq_two_iff.1 (by simp [hb x hx])
  have := x.rank_le_two
  omega

/-- Whatever the entry at its turn becomes, the list stays in order; granted, it is the last that memory owes. -/
theorem ListInOrder.replace (h : ListInOrder (before ++ e :: after) n owed) (ht : AtTurn before after)
    (he : e.isGranted = false) (serial : e'.serial = e.serial) (mark : e'.isHeld = true → e'.mark = none) :
    ListInOrder (before ++ e' :: after) n (owed ++ if e'.isGranted then [e.serial] else []) := by
  have hnb : before.filter InFlight.isWaiting = [] := List.filter_eq_nil_iff.2 fun x hx hw => by
    have := InFlight.rank_eq_one_iff.2 hw
    have := ht.passed x hx
    omega
  have hna : after.filter InFlight.isWaiting = [] := List.filter_eq_nil_iff.2 fun y hy hw => by
    have := InFlight.rank_eq_one_iff.2 hw
    have := ht.toCome y hy
    omega
  have hga : after.filter InFlight.isGranted = [] := List.filter_eq_nil_iff.2 fun y hy hg => by
    have := InFlight.rank_of_isGranted hg
    have := ht.toCome y hy
    omega
  refine ⟨⟨?_, fun x hx hh => ?_⟩, ?_, ?_, fun x hx => ?_, ?_⟩
  · rw [List.filter_append, List.filter_cons, hnb, hna]
    split <;> simp
  · rcases List.mem_append.1 hx with hm | hm
    · exact h.once.2 x (by simp [hm]) hh
    · rcases List.mem_cons.1 hm with rfl | hm
      · exact mark hh
      · exact h.once.2 x (by simp [hm]) hh
  · have hr := h.ranks
    simp only [List.map_append, List.map_cons, List.pairwise_append, List.pairwise_cons, List.forall_mem_map,
      List.mem_cons, forall_eq_or_imp] at hr ⊢
    refine ⟨hr.1, ⟨fun y hy => ?_, hr.2.1.2⟩, fun x hx => ⟨?_, (hr.2.2 x hx).2⟩⟩
    · rw [ht.toCome y hy]
      exact e'.rank_le_two
    · rw [ht.passed x hx]
      exact Nat.zero_le _
  · simpa [serial] using h.serials
  · rcases List.mem_append.1 hx with hm | hm
    · exact h.fresh x (by simp [hm])
    · rcases List.mem_cons.1 hm with rfl | hm
      · exact serial ▸ h.fresh e (by simp)
      · exact h.fresh x (by simp [hm])
  · have hg := h.granted
    rw [List.filter_append, List.filter_cons_of_neg (by simp [he]), hga, List.append_nil] at hg
    rw [List.filter_append, List.filter_cons, hga, List.map_append, hg]
    split <;> simp [serial]

/-! ### One entry changed -/

/-- Changing the first entry that meets a test: there is none, or the list is cut at it. -/
theorem updateFirst_cases (test : InFlight → Bool) (f : InFlight → InFlight) (l : List InFlight) :
    ((∀ x ∈ l, test x = false) ∧ updateFirst test f l = l) ∨
      ∃ before e after, l = before ++ e :: after ∧ (∀ x ∈ before, test x = false) ∧ test e = true ∧
        updateFirst test f l = before ++ f e :: after := by
  cases hf : l.find? test with
  | none =>
    have hl : ∀ x ∈ l, test x = false := by simpa using List.find?_eq_none.1 hf
    exact .inl ⟨hl, updateFirst_of_none f hl⟩
  | some e =>
    obtain ⟨he, before, after, rfl, hb⟩ := List.find?_eq_some_iff_append.1 hf
    have hb' : ∀ x ∈ before, test x = false := by simpa using hb
    exact .inr ⟨before, e, after, rfl, hb', he, updateFirst_cut hb' he⟩

/-- An entry's change that neither grants it nor gives a HELD one a mark. -/
structure Ungranted (f : InFlight → InFlight) (e : InFlight) : Prop where
  serial : (f e).serial = e.serial
  mark : (f e).isHeld = true → (f e).mark = none
  granted : (f e).isGranted = false

/-- The entry that waits changes. -/
theorem ListInOrder.change_waiting (h : ListInOrder l n owed) (waits : ∀ e, test e = true → e.isWaiting = true)
    (hf : ∀ e ∈ l, test e = true → Ungranted f e) : ListInOrder (updateFirst test f l) n owed := by
  rcases updateFirst_cases test f l with ⟨-, heq⟩ | ⟨before, e, after, rfl, -, he, heq⟩ <;> rw [heq]
  · exact h
  · obtain ⟨serial, mark, granted⟩ := hf e (by simp) he
    have hw := waits e he
    simpa [granted] using
      h.replace (h.atTurn_of_isWaiting hw) (InFlight.isGranted_of_isWaiting hw) serial mark

/-- The oldest QUEUED entry changes while none waits. -/
theorem ListInOrder.change_queued (h : ListInOrder l n owed) (hw : ∀ x ∈ l, x.isWaiting = false)
    (hf : ∀ e, Ungranted f e) : ListInOrder (updateFirst InFlight.isQueued f l) n owed := by
  rcases updateFirst_cases InFlight.isQueued f l with ⟨-, heq⟩ | ⟨before, e, after, rfl, hb, he, heq⟩ <;> rw [heq]
  · exact h
  · simpa [(hf e).granted] using
      h.replace (h.atTurn_of_isQueued hw hb he) (InFlight.isGranted_of_isQueued he) (hf e).serial (hf e).mark

/-- A change of every entry that leaves all but a waiting one alone is the change of that one. -/
theorem OnceWaiting.map_eq_updateFirst (h : OnceWaiting l) (waits : ∀ e, test e = true → e.isWaiting = true)
    (same : ∀ e, test e = false → f e = e) : l.map f = Machine.updateFirst test f l := by
  rcases updateFirst_cases test f l with ⟨hl, heq⟩ | ⟨before, e, after, rfl, -, he, heq⟩ <;> rw [heq]
  · simpa using List.map_congr_left fun x hx => same x (hl x hx)
  · have hrest (x : InFlight) (hx : x ∈ before ++ after) : f x = x :=
      same x (Bool.not_eq_true _ ▸ fun ht => by simpa [waits x ht] using h.alone (waits e he) x hx)
    simp only [List.map_append, List.map_cons, List.map_congr_left fun x hx => hrest x (List.mem_append_left _ hx),
      List.map_congr_left fun y hy => hrest y (List.mem_append_right _ hy), List.map_id']

/-! ### HELD entries -/

theorem any_isHeld_of_noneWaiting (h : ∀ x ∈ l, x.isWaiting = false) : l.any InFlight.isHeld = false :=
  List.any_eq_false.2 fun x hx hh => by simpa [InFlight.isWaiting_of_isHeld hh] using h x hx

/-- A change that makes no entry HELD and lets none out of HELD. -/
theorem any_isHeld_updateFirst (hf : ∀ e, test e = true → (f e).isHeld = e.isHeld) (l : List InFlight) :
    (updateFirst test f l).any InFlight.isHeld = l.any InFlight.isHeld := by
  rcases updateFirst_cases test f l with ⟨-, heq⟩ | ⟨before, e, after, rfl, -, he, heq⟩ <;> rw [heq]
  simp [hf e he]

/-- The HELD entry leaves HELD, and no other is HELD. -/
theorem OnceWaiting.any_isHeld_dropped (h : OnceWaiting l) (hf : ∀ e, (f e).isHeld = false) :
    (Machine.updateFirst InFlight.isHeld f l).any InFlight.isHeld = false := by
  rcases updateFirst_cases InFlight.isHeld f l with ⟨hl, heq⟩ | ⟨before, e, after, rfl, -, he, heq⟩ <;> rw [heq]
  · simpa using hl
  · have hrest := any_isHeld_of_noneWaiting (h.alone (InFlight.isWaiting_of_isHeld he))
    simpa [hf e] using hrest

end Sys2Proof.Machine
end

section
/-! SUPPORT. Held writes (R69, R70): what the hold slots must say of lists and rings, and what a change keeps of it and of
the order of answers. -/

namespace Sys2Proof.Machine

variable {s t u : State} {x y z : Option RingId}

/-- Each port's list is in order, `owed` being the serials that memory owes the port. -/
def InOrder (owed : Port → List Nat) (s : State) : Prop :=
  ∀ p, ListInOrder (s.inFlight p) (s.ports.get p).nextSerial (owed p)

/-- The serials that memory owes a port. -/
def owedTo (s : State) (p : Port) : List Nat := s.outstanding.filterMap (OutEntry.awaited? p)

theorem answersInOrder_iff : AnswersInOrder s ↔ InOrder (owedTo s) s := by
  refine (and_congr oneWaiting_iff bothPorts_iff).trans (forall_and.symm.trans (forall_congr' fun p => ?_))
  exact ⟨fun ⟨once, ranks, serials, fresh, granted⟩ => ⟨once, ranks, serials, fresh, granted⟩,
    fun ⟨once, ranks, serials, fresh, granted⟩ => ⟨once, ranks, serials, fresh, granted⟩⟩

/-- R70 holds of the write in port `p`'s hold slot: its ring is the port's, TRACKING in guard mode HOLD, and a slot it
touches is occupied. -/
def HoldSlot.Justified (s : State) (p : Port) (h : HoldSlot) : Prop :=
  ∃ b, (s.ring h.ring).body = some b ∧ h.touchesOccupied b = true ∧ b.desc.guardMode = .hold ∧ b.desc.producer = p

/-- R69 holds of both slots, and R70 of every held write but one of ring `x`. -/
def HoldsBut (x : Option RingId) (s : State) : Prop :=
  OneHold s ∧ ∀ p, (s.inFlight p).any InFlight.isHeld = (s.holds.get p).isSome ∧
    ∀ h, s.holds.get p = some h → x ≠ some h.ring → h.Justified s p

theorem holdSound_iff : HoldSound s ↔ AnswersInOrder s ∧ TrackingSound s ∧ HoldsBut none s := by
  refine and_congr_right fun _ => and_congr_right fun _ => and_congr_right fun _ => bothPorts_iff.trans ?_
  simp [HoldSlot.Justified]

theorem HoldsBut.weaken (h : HoldsBut none s) (x : Option RingId) : HoldsBut x s :=
  ⟨h.1, fun p => ⟨(h.2 p).1, fun hold hp _ => (h.2 p).2 hold hp (by simp)⟩⟩

theorem HoldSlot.Justified.congr {h : HoldSlot} {p : Port} (hj : h.Justified s p)
    (body : (t.ring h.ring).body = (s.ring h.ring).body) : h.Justified t p := by
  simpa only [HoldSlot.Justified, body] using hj

/-- A held write's ring is TRACKING. -/
theorem HoldSlot.Justified.isTracking {h : HoldSlot} {p : Port} (hj : h.Justified s p) :
    (s.ring h.ring).isTracking = true := by
  obtain ⟨b, hb, ho, -⟩ := hj
  refine (RingEntry.isTracking_iff hb).2 ?_
  unfold HoldSlot.touchesOccupied at ho
  split at ho
  · exact ⟨_, _, ‹_›⟩
  · cases ho

/-- The hold slots and the HELD entries stay, and each held write is justified still. -/
theorem HoldsBut.mono (h : HoldsBut x s) (holds : t.holds = s.holds)
    (held : ∀ p, (t.inFlight p).any InFlight.isHeld = (s.inFlight p).any InFlight.isHeld)
    (justified : ∀ p hold, s.holds.get p = some hold → x ≠ some hold.ring → hold.Justified s p → hold.Justified t p) :
    HoldsBut x t := by
  obtain ⟨hone, hall⟩ := h
  refine ⟨by rwa [OneHold, holds], fun p => ?_⟩
  rw [held, holds]
  exact ⟨(hall p).1, fun hold hp hx => justified p hold hp hx ((hall p).2 hold hp hx)⟩

/-! ### What a change keeps -/

/-- From `s` to `t` the lists stay in order, and memory owes the ports the same. -/
structure KeepsOrder (s t : State) : Prop where
  order : ∀ owed, InOrder owed s → InOrder owed t
  owed : ∀ p, owedTo t p = owedTo s p

/-- From `s` to `t` the order is kept, and R69 and R70 hold afterwards of every held write but one of ring `y` when they
held of every one but one of ring `x`. -/
structure KeepsHolds (x y : Option RingId) (s t : State) : Prop extends KeepsOrder s t where
  holds : ∀ owed, InOrder owed s → HoldsBut x s → HoldsBut y t

theorem KeepsOrder.refl (s : State) : KeepsOrder s s := ⟨fun _ => id, fun _ => rfl⟩

theorem KeepsOrder.trans (h : KeepsOrder s t) (h' : KeepsOrder t u) : KeepsOrder s u :=
  ⟨fun owed => h'.order owed ∘ h.order owed, fun p => (h'.owed p).trans (h.owed p)⟩

theorem KeepsHolds.refl (s : State) : KeepsHolds x x s s := ⟨.refl s, fun _ _ => id⟩

theorem KeepsHolds.trans (h : KeepsHolds x y s t) (h' : KeepsHolds y z t u) : KeepsHolds x z s u :=
  ⟨h.toKeepsOrder.trans h'.toKeepsOrder, fun owed ho hs => h'.holds owed (h.order owed ho) (h.holds owed ho hs)⟩

/-- A command that keeps the answers in order, and R69 and R70 of every held write. -/
structure Passes (s t : State) : Prop where
  order : AnswersInOrder s → AnswersInOrder t
  holds : TrackingSound s → AnswersInOrder s → HoldsBut none s → HoldsBut none t

theorem KeepsOrder.answers (h : KeepsOrder s t) (hs : AnswersInOrder s) : AnswersInOrder t := by
  have howed : owedTo t = owedTo s := funext h.owed
  rw [answersInOrder_iff] at hs ⊢
  exact howed ▸ h.order _ hs

theorem KeepsHolds.passes (h : KeepsHolds none none s t) : Passes s t :=
  ⟨h.answers, fun _ hs => h.holds _ (answersInOrder_iff.1 hs)⟩

theorem Passes.trans_keeps (h : Passes s t) (h' : KeepsHolds none none t u) : Passes s u :=
  ⟨h'.answers ∘ h.order, fun ht hs hh => h'.holds _ (answersInOrder_iff.1 (h.order hs)) (h.holds ht hs hh)⟩

/-! ### Updates of the state -/

/-- The ports' interfaces, the hold slots and the rings' bodies are the same. -/
@[simp] def SamePassage (s t : State) : Prop := t.ports = s.ports ∧ t.holds = s.holds ∧ SameBodies s t

theorem KeepsOrder.of_ports (ports : t.ports = s.ports) (owed : ∀ p, owedTo t p = owedTo s p) : KeepsOrder s t :=
  ⟨fun _ h p => by simpa only [State.inFlight, ports] using h p, owed⟩

theorem KeepsHolds.of_owed (same : SamePassage s t) (owed : ∀ p, owedTo t p = owedTo s p) : KeepsHolds x x s t := by
  obtain ⟨ports, holds, bodies⟩ := same
  exact ⟨.of_ports ports owed, fun _ _ h => h.mono holds (fun p => by simp only [State.inFlight, ports])
    fun _ hold _ _ hj => hj.congr (bodies hold.ring)⟩

theorem KeepsHolds.of_same (outstanding : t.outstanding = s.outstanding) (same : SamePassage s t) :
    KeepsHolds x x s t := .of_owed same fun p => by rw [owedTo, outstanding, owedTo]

theorem KeepsHolds.setEngine (e : Engine) : KeepsHolds x x s (s.setEngine e) := .of_same rfl (by simp)

theorem KeepsHolds.setUnit (p : Port) (v : Option NoticeUnit) : KeepsHolds x x s (s.setUnit p v) :=
  .of_same rfl (by simp)

theorem KeepsHolds.setJob (j : Option NoticeJob) : KeepsHolds x x s (s.setJob j) := .of_same rfl (by simp)

/-- A ring's entry is replaced by one under which a write held on it is justified still. -/
theorem KeepsHolds.setRing {r : RingId} {e : RingEntry}
    (justified : ∀ p (hold : HoldSlot), hold.ring = r → x ≠ some r → hold.Justified s p →
      hold.Justified (s.setRing r e) p) : KeepsHolds x x s (s.setRing r e) := by
  refine ⟨.of_ports rfl fun _ => rfl, fun _ _ h => h.mono rfl (fun _ => rfl) fun p hold _ hx hj => ?_⟩
  by_cases hr : hold.ring = r
  · exact justified p hold hr (hr ▸ hx) hj
  · exact hj.congr (congrArg RingEntry.body (State.ring_setRing_ne s e hr))

/-- No write is held on a ring that is not TRACKING. -/
theorem KeepsHolds.setRing_untracked {r : RingId} (h : (s.ring r).isTracking = false) (e : RingEntry) :
    KeepsHolds x x s (s.setRing r e) :=
  .setRing fun p hold hr _ hj => by
    subst hr
    simp [hj.isTracking] at h

/-- The body keeps its slots, guard mode and producer. -/
theorem KeepsHolds.setBody_same {r : RingId} {b b' : RingBody} (hb : (s.ring r).body = some b)
    (phase : b'.phase = b.phase) (slots : b'.desc.slotCount = b.desc.slotCount)
    (guard : b'.desc.guardMode = b.desc.guardMode) (producer : b'.desc.producer = b.desc.producer) :
    KeepsHolds x x s (s.setBody r b') :=
  .setRing fun p hold hr _ ⟨b₀, hb₀, ho, hg, hp⟩ => by
    subst hr
    obtain rfl : b₀ = b := Option.some.inj (hb₀.symm.trans hb)
    refine ⟨b', by simp, ?_, guard.trans hg, producer.trans hp⟩
    simpa only [HoldSlot.touchesOccupied, phase, slots] using ho

/-- Of a write held on the ring nothing is said afterwards. -/
theorem KeepsHolds.setBody_but (r : RingId) (b' : RingBody) : KeepsHolds none (some r) s (s.setBody r b') := by
  have h : KeepsHolds (some r) (some r) s (s.setBody r b') := .setRing fun _ _ _ hx => absurd rfl hx
  exact ⟨h.toKeepsOrder, fun owed ho hs => h.holds owed ho (hs.weaken _)⟩

theorem KeepsHolds.setOutstanding_map {f : OutEntry → OutEntry} (hf : ∀ o p, (f o).awaited? p = o.awaited? p) :
    KeepsHolds x x s (s.setOutstanding (s.outstanding.map f)) :=
  .of_owed (by simp) fun p => by
    rw [owedTo, State.setOutstanding_outstanding, List.filterMap_map]
    exact congrArg (List.filterMap · _) (funext fun o => hf o p)

/-! ### Updates of a list -/

theorem KeepsOrder.setInFlight {p : Port} {l : List InFlight}
    (h : ∀ n owed, ListInOrder (s.inFlight p) n owed → ListInOrder l n owed) : KeepsOrder s (s.setInFlight p l) := by
  refine ⟨fun owed hs q => ?_, fun _ => rfl⟩
  by_cases hq : q = p
  · subst hq
    simpa using h _ _ (hs q)
  · simpa [State.inFlight_setInFlight_ne _ _ hq, PerPort.get_set_ne _ _ hq] using hs q

/-- A port's list changes to one in order with as many HELD entries. -/
theorem KeepsHolds.setInFlight {p : Port} {l : List InFlight}
    (order : ∀ n owed, ListInOrder (s.inFlight p) n owed → ListInOrder l n owed)
    (held : ∀ n owed, ListInOrder (s.inFlight p) n owed → l.any InFlight.isHeld = (s.inFlight p).any InFlight.isHeld) :
    KeepsHolds x x s (s.setInFlight p l) := by
  refine ⟨.setInFlight order, fun owed hs h => h.mono rfl (fun q => ?_) fun _ _ _ _ => id⟩
  by_cases hq : q = p
  · subst hq
    simpa using held _ _ (hs q)
  · rw [State.inFlight_setInFlight_ne _ _ hq]

/-- A waiting entry changes that was not HELD and is not HELD afterwards. -/
theorem KeepsHolds.changeWaiting {p : Port} {test : InFlight → Bool} {f : InFlight → InFlight}
    (waits : ∀ e, test e = true → e.isWaiting = true) (hf : ∀ e, test e = true → Ungranted f e)
    (held : ∀ e, test e = true → (f e).isHeld = e.isHeld) : KeepsHolds x x s (changeEntry p test f s) :=
  .setInFlight (fun _ _ h => h.change_waiting waits fun e _ => hf e) fun _ _ _ => any_isHeld_updateFirst held _

/-- The same change as one of every entry of the list. -/
theorem KeepsHolds.mapWaiting {p : Port} {test : InFlight → Bool} {f : InFlight → InFlight}
    (waits : ∀ e, test e = true → e.isWaiting = true) (same : ∀ e, test e = false → f e = e)
    (hf : ∀ e, test e = true → Ungranted f e) (held : ∀ e, test e = true → (f e).isHeld = e.isHeld) :
    KeepsHolds x x s (s.setInFlight p ((s.inFlight p).map f)) := by
  have hmap {n : Nat} {owed : List Nat} (h : ListInOrder (s.inFlight p) n owed) :
      (s.inFlight p).map f = updateFirst test f (s.inFlight p) := h.once.map_eq_updateFirst waits same
  refine .setInFlight (fun _ _ h => ?_) fun _ _ h => ?_ <;> rw [hmap h]
  · exact h.change_waiting waits fun e _ => hf e
  · exact any_isHeld_updateFirst held _

theorem KeepsHolds.unstallList (p : Port) : KeepsHolds x x s (s.setInFlight p ((s.inFlight p).map unstall)) := by
  refine .mapWaiting (test := InFlight.isStalled) (fun e h => by simp [InFlight.isWaiting, h])
    (fun e h => by simp [unstall, h]) (fun e h => ?_) fun e h => ?_
  · exact ⟨by simp [unstall, h], by simp [unstall, h, InFlight.isHeld], by simp [unstall, h, InFlight.isGranted]⟩
  · have hs : e.stage = .stalled := by simpa [InFlight.isStalled] using h
    simp [unstall, h, InFlight.isHeld, hs]

theorem KeepsHolds.unstallAll : KeepsHolds x x s (unstallAll s) :=
  (KeepsHolds.unstallList .a).trans (.unstallList .b)

theorem KeepsHolds.dropNoticeMarks (p : Port) : KeepsHolds x x s (dropNoticeMarks p s) := by
  have hcases (e : InFlight) : e.dropNoticeMark = e ∨ e.dropNoticeMark = { e with mark := none } := by
    unfold InFlight.dropNoticeMark
    split
    · exact .inr rfl
    · exact .inl rfl
  have hstage (e : InFlight) : e.dropNoticeMark.stage = e.stage := by rcases hcases e with h | h <;> rw [h]
  refine .mapWaiting (test := InFlight.isEligible) (fun _ => InFlight.isWaiting_of_isEligible)
    (fun e h => by simp [InFlight.dropNoticeMark, h]) (fun e h => ?_) fun e _ => by rw [InFlight.isHeld, hstage]; rfl
  have hs : e.stage = .eligible := by simpa [InFlight.isEligible] using h
  exact ⟨by rcases hcases e with h | h <;> rw [h], by simp [InFlight.isHeld, hstage, hs],
    by simp [InFlight.isGranted, hstage, hs]⟩

/-! ### Releasing and refusing held writes (R58, R74, R77, R79 to R83) -/

theorem InFlight.ungranted_release (e : InFlight) : Ungranted (fun e => { e with stage := .eligible }) e :=
  ⟨rfl, by simp [InFlight.isHeld], rfl⟩

theorem InFlight.ungranted_refuse (e : InFlight) : Ungranted InFlight.refuse e :=
  ⟨rfl, by simp [InFlight.refuse, InFlight.isHeld], rfl⟩

/-- The write port `p` holds leaves HELD, and the slot is EMPTY. -/
def dropHeld (p : Port) (f : InFlight → InFlight) (s : State) : State :=
  changeEntry p InFlight.isHeld f (s.setHold p none)

theorem releaseHeld_eq (p : Port) : releaseHeld p s = dropHeld p (fun e => { e with stage := .eligible }) s := rfl

theorem refuseHeld_eq (p : Port) : refuseHeld p s = dropHeld p InFlight.refuse s := rfl

theorem KeepsHolds.dropHeld (p : Port) {f : InFlight → InFlight} (hf : ∀ e, Ungranted f e)
    (held : ∀ e, (f e).isHeld = false) : KeepsHolds x x s (dropHeld p f s) := by
  have hslot : KeepsOrder s (s.setHold p none) := .of_ports rfl fun _ => rfl
  have horder : KeepsOrder s (Machine.dropHeld p f s) :=
    hslot.trans (.setInFlight fun _ _ h => h.change_waiting (fun _ => InFlight.isWaiting_of_isHeld) fun e _ _ => hf e)
  refine ⟨horder, fun owed hs ⟨hone, hall⟩ => ⟨?_, fun q => ?_⟩⟩
  · cases p <;> simp_all [OneHold, Machine.dropHeld, PerPort.set]
  · by_cases hq : q = p
    · subst hq
      simpa [Machine.dropHeld, changeEntry] using (hs q).once.any_isHeld_dropped held
    · rw [Machine.dropHeld, changeEntry, State.inFlight_setInFlight_ne _ _ hq, State.setInFlight_holds,
        State.setHold_holds, PerPort.get_set_ne _ _ hq]
      exact hall q

theorem KeepsHolds.releaseHeld (p : Port) : KeepsHolds x x s (releaseHeld p s) :=
  .dropHeld p InFlight.ungranted_release fun _ => rfl

theorem KeepsHolds.refuseHeld (p : Port) : KeepsHolds x x s (refuseHeld p s) :=
  .dropHeld p InFlight.ungranted_refuse fun _ => rfl

theorem OneHold.get_other (h : OneHold s) {p : Port} {hold : HoldSlot} (hp : s.holds.get p = some hold) :
    s.holds.get (other p) = none := by
  cases p <;> simp_all [OneHold, PerPort.get, other]

theorem OneHold.ring_ne (h : OneHold s) {r : RingId} (hr : heldOn s r = none) {p : Port} {hold : HoldSlot}
    (hp : s.holds.get p = some hold) : hold.ring ≠ r := by
  rw [heldOn_of_one hp (h.get_other hp)] at hr
  simpa using hr

/-- Once nothing is held on a ring, no write is excepted. -/
theorem HoldsBut.of_none {r : RingId} (h : HoldsBut (some r) s)
    (hr : ∀ p hold, s.holds.get p = some hold → hold.ring ≠ r) : HoldsBut none s :=
  ⟨h.1, fun p => ⟨(h.2 p).1, fun hold hp _ => (h.2 p).2 hold hp fun heq =>
    hr p hold hp (Option.some.inj heq).symm⟩⟩

theorem KeepsHolds.of_heldOn_none {r : RingId} (h : heldOn s r = none) : KeepsHolds (some r) none s s :=
  ⟨.refl s, fun _ _ hs => hs.of_none fun _ _ => hs.1.ring_ne h⟩

/-- The write held on a ring leaves HELD; the two ports never hold at once, so none is left on it (R69). -/
theorem KeepsHolds.dropHeldOn {r : RingId} {p : Port} {h : HoldSlot} (hh : heldOn s r = some (p, h))
    {f : InFlight → InFlight} (hf : ∀ e, Ungranted f e) (held : ∀ e, (f e).isHeld = false) :
    KeepsHolds (some r) none s (Machine.dropHeld p f s) := by
  have hdrop : KeepsHolds (some r) (some r) s (Machine.dropHeld p f s) := .dropHeld p hf held
  refine ⟨hdrop.toKeepsOrder, fun owed ho hs => (hdrop.holds owed ho hs).of_none fun q hold hq => ?_⟩
  have hnone : (Machine.dropHeld p f s).holds.get q = none := by
    rcases eq_or_eq_other p q with rfl | rfl
    · simp [Machine.dropHeld]
    · simpa [Machine.dropHeld] using hs.1.get_other (holds_of_heldOn hh).1
  simp [hnone] at hq

theorem KeepsHolds.releaseHeldOn (r : RingId) : KeepsHolds (some r) none s (releaseHeldOn r s) := by
  unfold Machine.releaseHeldOn
  split
  · exact .of_heldOn_none ‹_›
  · exact .dropHeldOn ‹_› InFlight.ungranted_release fun _ => rfl

end Sys2Proof.Machine
end

section
/-! SUPPORT. The shared operations and the engine's commands (08) keep the order of answers and the held writes. -/

namespace Sys2Proof.Machine

variable {s t u : State} {x : Option RingId}

/-! ### Shared operations -/

theorem KeepsHolds.raiseRing (r : RingId) (k : RingKind) : KeepsHolds x x s (raiseRing r k s) :=
  .of_same (by simp) (by simp)

theorem KeepsHolds.raiseDevice (p : Port) (k : DeviceKind) : KeepsHolds x x s (raiseDevice p k s) :=
  .of_same (by simp) (by simp)

theorem KeepsHolds.countViolation (r : RingId) (k : ViolationKind) (p : Port) (addr : Word) :
    KeepsHolds x x s (countViolation r k p addr s) := .of_same (by simp) (by simp)

theorem KeepsHolds.chargeViolation (r : RingId) (k : ViolationKind) (p : Port) (addr : Word) :
    KeepsHolds x x s (chargeViolation r k p addr s) := .of_same (by simp) (by simp)

theorem KeepsHolds.forgetNotices (r : RingId) : KeepsHolds x x s (forgetNotices r s) := .of_same (by simp) (by simp)

theorem KeepsHolds.clearPortNotices (p : Port) : KeepsHolds x x s (clearPortNotices p s) :=
  .of_same (by simp) (by simp [Machine.clearPortNotices])

theorem KeepsHolds.returnKinds (p : Port) (rec : RecordInFlight) : KeepsHolds x x s (returnKinds p rec s) := by
  have hback (src : Source) (q : Port) (k : KindSet) :
      KeepsHolds x x s ((dequeue src q (setPendingSet src q k s)).setQueue q
        (src :: (dequeue src q (setPendingSet src q k s)).queues.get q)) := .of_same (by simp) (by simp)
  unfold Machine.returnKinds
  split
  · dsimp only
    split
    · exact .refl s
    · exact hback ..
  · split
    · exact .refl s
    · split
      · exact .refl s
      · dsimp only
        split
        · exact .refl s
        · exact hback ..

theorem KeepsHolds.presentEngine (q : EngineRequest) : KeepsHolds x x s (presentEngine q s) := .setEngine _

theorem KeepsHolds.fetchOrIdle : KeepsHolds x x s (fetchOrIdle s) := .of_same (by simp) (by simp)

theorem KeepsHolds.report (status : CommandStatus) (words : Params) : KeepsHolds x x s (report status words s) :=
  .of_same (by simp) (by simp)

theorem KeepsHolds.settleWait (w : EngineWait) (status : CommandStatus) (words : Params) :
    KeepsHolds x x s (settleWait w status words s) := .of_same (by simp) (by simp)

theorem KeepsHolds.haltEngine (info : HaltInfo) : KeepsHolds x x s (haltEngine info s) := by
  refine (KeepsHolds.setEngine _).trans ((KeepsHolds.setOutstanding_map fun o p => ?_).trans
    ((KeepsHolds.presentEngine _).trans (.raiseDevice _ _)))
  split
  · rename_i h
    simp only [OutEntry.awaited?, h]
  · rfl

theorem KeepsHolds.unitOff (p : Port) : KeepsHolds x x s (unitOff p s) :=
  (KeepsHolds.setUnit p none).trans (.dropNoticeMarks p)

theorem KeepsHolds.abandonJob (p : Port) : KeepsHolds x x s (abandonJob p s) :=
  .of_owed (by simp) Aside.abandonJob.awaited

theorem KeepsHolds.dropAppliedMarks (r : RingId) : KeepsHolds x x s (dropAppliedMarks r s) :=
  .setOutstanding_map (OutEntry.awaited?_dropApplied r)

theorem RingEntry.isTracking_eq_false {e : RingEntry} {b : RingBody} (hb : e.body = some b)
    (h : ∀ head tail, b.phase ≠ .tracking head tail) : e.isTracking = false := by
  rw [← Bool.not_eq_true, RingEntry.isTracking_iff hb]
  simpa using h

/-- The test leads a SEEDING ring on to READING, on which no write is held (R40, R41). -/
theorem KeepsHolds.drainTest (r : RingId) : KeepsHolds x x s (drainTest r s) := by
  rcases drainTest_cases r s with h | ⟨b, rec, hb, hph, -, h⟩ <;> rw [h]
  · exact .refl s
  · exact (KeepsHolds.setRing_untracked (RingEntry.isTracking_eq_false hb (by simp [hph])) _).trans
      (.presentEngine _)

theorem KeepsHolds.drainTestSeeding : KeepsHolds x x s (drainTestSeeding s) := by
  unfold Machine.drainTestSeeding
  split
  · exact .drainTest _
  · exact .refl s

/-- A ring leaves TRACKING, and the write held on it is released (R58, R82). -/
theorem KeepsHolds.leaveTracking (r : RingId) (b : RingBody) :
    KeepsHolds none none s (Machine.releaseHeldOn r (Machine.dropAppliedMarks r (s.setBody r b))) :=
  (KeepsHolds.setBody_but r b).trans ((KeepsHolds.dropAppliedMarks r).trans (.releaseHeldOn r))

theorem KeepsHolds.faultEntry (r : RingId) (cause : FaultCause) : KeepsHolds none none s (faultEntry r cause s) := by
  unfold Machine.faultEntry
  split
  · split
    · exact (KeepsHolds.leaveTracking r _).trans (.raiseRing r .fault)
    · exact .refl s
  · exact .refl s

/-! ### Executing (R129, R137) -/

theorem KeepsHolds.finish (h : KeepsHolds x x s t) (status : CommandStatus) :
    KeepsHolds x x s (finish status t) := h.trans (.report ..)

theorem KeepsHolds.finish_at_once (status : CommandStatus) : KeepsHolds x x s (Machine.finish status s) :=
  (KeepsHolds.refl s).finish status

theorem KeepsHolds.performing {k : CommandCode} {act : SlotWords → State → State}
    (h : ∀ w, KeepsHolds x x s (act w s)) : KeepsHolds x x s (performing k act s) := by
  unfold Machine.performing
  split
  · split
    · exact h _
    · exact .refl s
  · exact .refl s

theorem KeepsHolds.ringCommand {allowed : RingEntry → Bool} {act : RingId → State → State} {w : SlotWords}
    (h : ∀ r, allowed (s.ring r) = true → KeepsHolds x x s (act r s)) :
    KeepsHolds x x s (ringCommand allowed act w s) := by
  unfold Machine.ringCommand
  split
  · exact .finish_at_once _
  · split
    · exact h _ ‹_›
    · exact .finish_at_once _

theorem KeepsHolds.onBody {act : RingBody → State → State} {r : RingId}
    (h : ∀ b, (s.ring r).body = some b → KeepsHolds x x s (act b s)) : KeepsHolds x x s (onBody act r s) := by
  unfold Machine.onBody
  split
  · exact h _ ‹_›
  · exact .finish_at_once _

theorem KeepsHolds.unitCommand {allowed : Option NoticeUnit → Bool} {act : Port → State → State} {w : SlotWords}
    (h : ∀ p, KeepsHolds x x s (act p s)) : KeepsHolds x x s (unitCommand allowed act w s) := by
  unfold Machine.unitCommand
  split
  · exact .finish_at_once _
  · split
    · exact h _
    · exact .finish_at_once _

theorem KeepsHolds.execBadCommand (h : execBadCommand s = .next t) : KeepsHolds none none s t := by
  obtain rfl := Host.Outcome.next.inj h
  split
  · split
    · exact .finish_at_once _
    · exact .refl s
  · exact .refl s

/-! ### Defining and releasing (R140 to R143) -/

theorem KeepsHolds.forgetSetRing {r : RingId} (old : (s.ring r).isTracking = false) (e : RingEntry) :
    KeepsHolds x x s ((Machine.forgetNotices r s).setRing r e) :=
  (KeepsHolds.forgetNotices r).trans (.setRing_untracked (by simpa using old) e)

theorem KeepsHolds.execDefineRing (h : execDefineRing s = .next t) : KeepsHolds none none s t := by
  obtain rfl := Host.Outcome.next.inj h
  refine .performing fun w => .ringCommand fun r hr => ?_
  split
  · exact .finish_at_once _
  · split
    · exact (KeepsHolds.forgetSetRing (isTracking_of_allowedDefine hr) _).finish _
    · exact .finish_at_once _

theorem KeepsHolds.execReleaseRing (h : execReleaseRing s = .next t) : KeepsHolds none none s t := by
  obtain rfl := Host.Outcome.next.inj h
  exact .performing fun w => .ringCommand fun r hr =>
    (KeepsHolds.forgetSetRing (isTracking_of_allowedDefined hr) _).finish _

/-! ### Arming, disarming and clearing (R144 to R147) -/

theorem KeepsHolds.beginSeeding {r : RingId} (old : (s.ring r).isTracking = false) (b : RingBody)
    (purpose : SeedPurpose) : KeepsHolds x x s (beginSeeding r b purpose s) :=
  (KeepsHolds.setRing_untracked old _).trans ((KeepsHolds.setEngine _).trans (.drainTest r))

theorem KeepsHolds.execArmRing (h : execArmRing s = .next t) : KeepsHolds none none s t := by
  obtain rfl := Host.Outcome.next.inj h
  exact .performing fun w => .ringCommand fun r hr => .onBody fun b _ =>
    .beginSeeding (isTracking_of_allowedDefined hr) b _

theorem isTracking_of_allowedFaulted {e : RingEntry} (h : allowedFaulted e = true) : e.isTracking = false := by
  unfold allowedFaulted at h
  unfold RingEntry.isTracking
  split at h <;> simp_all

theorem KeepsHolds.execClearFault (h : execClearFault s = .next t) : KeepsHolds none none s t := by
  obtain rfl := Host.Outcome.next.inj h
  refine .performing fun w => .ringCommand fun r hr => .onBody fun b _ => ?_
  split
  · exact .beginSeeding (isTracking_of_allowedFaulted hr) b _
  · exact .refl s

theorem KeepsHolds.execDisarmRing (h : execDisarmRing s = .next t) : KeepsHolds none none s t := by
  obtain rfl := Host.Outcome.next.inj h
  exact .performing fun w => .ringCommand fun r _ => .onBody fun b _ => (KeepsHolds.leaveTracking r _).finish _

/-! ### Changing a ring (R148 to R152) -/

theorem KeepsHolds.execSetMarks (h : execSetMarks s = .next t) : KeepsHolds none none s t := by
  obtain rfl := Host.Outcome.next.inj h
  refine .performing fun w => .ringCommand fun r _ => .onBody fun b hb => ?_
  split
  · exact .finish_at_once _
  · rename_i high low _
    have hset : KeepsHolds none none s (s.setBody r { b with highMark := high, lowMark := low }) :=
      .setBody_same hb rfl rfl rfl rfl
    exact hset.finish _

/-- Under the guard mode HOLD a held write is kept: its ring is TRACKING, and its phase stays (R79). -/
theorem KeepsHolds.setGuard_hold {r : RingId} {b : RingBody} (hb : (s.ring r).body = some b) (limit : Nat)
    (rcv : Recovery) : KeepsHolds x x s (s.setBody r (b.withGuard .hold limit rcv)) :=
  .setRing fun p hold hr _ ⟨b₀, hb₀, ho, _, hp⟩ => by
    subst hr
    obtain rfl : b₀ = b := Option.some.inj (hb₀.symm.trans hb)
    refine ⟨b₀.withGuard .hold limit rcv, by simp, ?_, rfl, hp⟩
    unfold HoldSlot.touchesOccupied at ho
    split at ho
    · rename_i head tail hph
      simpa only [HoldSlot.touchesOccupied, RingBody.withGuard, phaseAfterGuard, hph] using ho
    · cases ho

/-- Under another guard mode the write held on the ring is settled (R80, R81). -/
theorem KeepsHolds.settleHeldByGuard (r : RingId) {g : GuardMode} (hg : g ≠ .hold) :
    KeepsHolds (some r) none s (settleHeldByGuard r g s) := by
  unfold Machine.settleHeldByGuard
  split
  · exact .of_heldOn_none ‹_›
  · cases g with
    | hold => exact absurd rfl hg
    | observe => exact (KeepsHolds.dropHeldOn ‹_› InFlight.ungranted_release fun _ => rfl).trans (.chargeViolation ..)
    | refuse => exact (KeepsHolds.dropHeldOn ‹_› InFlight.ungranted_refuse fun _ => rfl).trans (.chargeViolation ..)

theorem KeepsHolds.execSetGuard (h : execSetGuard s = .next t) : KeepsHolds none none s t := by
  obtain rfl := Host.Outcome.next.inj h
  refine .performing fun w => .ringCommand fun r _ => .onBody fun b hb => ?_
  split
  · exact .finish_at_once _
  · rename_i g limit rcv _
    have hset : KeepsHolds none none s (Machine.settleHeldByGuard r g (s.setBody r (b.withGuard g limit rcv))) := by
      by_cases hg : g = .hold
      · subst hg
        rw [settleHeldByGuard_of_kept (.inr rfl)]
        exact .setGuard_hold hb limit rcv
      · exact (KeepsHolds.setBody_but r _).trans (.settleHeldByGuard r hg)
    exact hset.finish _

theorem KeepsHolds.moveNotify {r : RingId} {b : RingBody} (hb : (s.ring r).body = some b) (p : Port) (m : KindSet) :
    KeepsHolds x x s (moveNotify r b p m s) := by
  have hset : KeepsHolds x x s (s.setBody r { b with desc := { b.desc with notify := p, mask := m } }) :=
    .setBody_same hb rfl rfl rfl rfl
  refine hset.trans ?_
  unfold Machine.moveNotify
  dsimp only
  split
  · exact .of_same (by simp) (by simp)
  · split <;> exact .of_same (by simp) (by simp)

theorem KeepsHolds.execSetNotify (h : execSetNotify s = .next t) : KeepsHolds none none s t := by
  obtain rfl := Host.Outcome.next.inj h
  refine .performing fun w => .ringCommand fun r _ => .onBody fun b hb => ?_
  split
  · exact .finish_at_once _
  · exact (KeepsHolds.moveNotify hb _ _).finish _

theorem KeepsHolds.execResetCounts (h : execResetCounts s = .next t) : KeepsHolds none none s t := by
  obtain rfl := Host.Outcome.next.inj h
  refine .performing fun w => .ringCommand fun r _ => KeepsHolds.finish (.setRing fun p hold hr _ hj => hj.congr ?_) _
  rw [hr, State.ring_setRing_self]

/-! ### Reading a ring, notice unit commands, clearing the table (R153 to R159) -/

theorem KeepsHolds.execQueryRing (h : execQueryRing s = .next t) : KeepsHolds none none s t := by
  obtain rfl := Host.Outcome.next.inj h
  refine .performing fun w => .ringCommand fun r _ => ?_
  split
  · exact .finish_at_once _
  · exact .report ..
  · exact .report ..

theorem KeepsHolds.execSetupNotice (h : execSetupNotice s = .next t) : KeepsHolds none none s t := by
  obtain rfl := Host.Outcome.next.inj h
  refine .performing fun w => .unitCommand fun p => ?_
  split
  · exact .finish_at_once _
  · split
    · exact (KeepsHolds.setUnit p _).trans ((KeepsHolds.dropNoticeMarks p).trans (.setEngine _))
    · exact .finish_at_once _

theorem KeepsHolds.closeUnit (p : Port) : KeepsHolds x x s (closeUnit p s) := by
  unfold Machine.closeUnit
  split
  · exact .refl s
  · split
    · exact (KeepsHolds.unitOff p).trans (.report ..)
    · exact (KeepsHolds.unitOff p).trans (.report ..)
    · exact (KeepsHolds.setUnit p _).trans (.setEngine _)
    · exact .refl s

theorem KeepsHolds.execNoticeOff (h : execNoticeOff s = .next t) : KeepsHolds none none s t := by
  obtain rfl := Host.Outcome.next.inj h
  exact .performing fun w => .unitCommand fun p => .closeUnit p

theorem KeepsHolds.releaseAny (p : Port) : KeepsHolds x x s (releaseAny p s) := by
  unfold Machine.releaseAny
  split
  · exact .releaseHeld p
  · exact .refl s

theorem releaseAny_holds (p : Port) (s : State) : (releaseAny p s).holds = s.holds.set p none := by
  unfold releaseAny
  split
  · rfl
  · rename_i h
    exact (h ▸ PerPort.set_get s.holds p).symm

theorem OutEntry.awaited?_dropAnyApplied (o : OutEntry) (p : Port) :
    o.dropAnyApplied.awaited? p = o.awaited? p := by
  rcases o with ⟨⟨q, n, ring, ap⟩ | k | ⟨v, w⟩, d⟩ <;> rfl

/-- While no slot is HOLDING, the ring table may change. -/
theorem KeepsHolds.of_empty (empty : ∀ p, s.holds.get p = none) (ports : t.ports = s.ports) (holds : t.holds = s.holds)
    (owed : ∀ p, owedTo t p = owedTo s p) : KeepsHolds x x s t :=
  ⟨.of_ports ports owed, fun _ _ h => h.mono holds (fun p => by simp only [State.inFlight, ports])
    fun p _ hp => by simp [empty p] at hp⟩

theorem KeepsHolds.clearTable : KeepsHolds none none s (clearTable s) := by
  have hrelease : KeepsHolds none none s (Machine.releaseAny .b (Machine.releaseAny .a s)) :=
    (KeepsHolds.releaseAny .a).trans (.releaseAny .b)
  have hempty (p : Port) : (Machine.releaseAny .b (Machine.releaseAny .a s)).holds.get p = none := by
    cases p <;> simp [releaseAny_holds, PerPort.get, PerPort.set]
  refine hrelease.trans (.of_empty hempty (by simp [Machine.clearTable]) (by simp [Machine.clearTable]) fun p => ?_)
  rw [owedTo, Machine.clearTable, owedTo]
  simp only [State.mapRings_outstanding, State.setQueue_outstanding, mapRecords_outstanding,
    State.setOutstanding_outstanding, List.filterMap_map]
  exact congrArg (List.filterMap · _) (funext fun o => o.awaited?_dropAnyApplied p)

theorem KeepsHolds.execResetTable (h : execResetTable s = .next t) : KeepsHolds none none s t := by
  obtain rfl := Host.Outcome.next.inj h
  exact .performing fun w => KeepsHolds.clearTable.finish _

end Sys2Proof.Machine
end

section
/-! SUPPORT. Grants (R172, R173) keep the order of answers and the held writes. An applied head write leaves every
occupied slot occupied, and after an applied tail write the held write is re-tested (R70, R74). -/

namespace Sys2Proof.Machine

variable {s t u : State} {x : Option RingId} {p : Port} {e : InFlight}

/-! ### Index writes granted (R33, R62, R63, R74) -/

theorem KeepsHolds.markCrossing (r : RingId) (b : RingBody) (before after : Nat) :
    KeepsHolds x x s (markCrossing r b before after s) := by
  unfold Machine.markCrossing
  dsimp only
  split <;> split
  · exact (KeepsHolds.raiseRing ..).trans (.raiseRing ..)
  · exact .raiseRing ..
  · exact .raiseRing ..
  · exact .refl s

@[simp] theorem markCrossing_holds (r : RingId) (b : RingBody) (before after : Nat) (s : State) :
    (markCrossing r b before after s).holds = s.holds := by
  unfold markCrossing
  dsimp only
  split <;> split <;> simp

theorem KeepsOrder.retestHeld (r : RingId) : KeepsOrder s (retestHeld r s) := by
  have hrelease (q : Port) : KeepsHolds none none s (releaseHeld q s) := .releaseHeld q
  unfold Machine.retestHeld
  split
  · split
    · split
      · exact (hrelease _).toKeepsOrder
      · exact .refl s
    · exact .refl s
  · exact .refl s

theorem KeepsOrder.applyIndex (r : RingId) (w : IndexWord) (v : Index) : KeepsOrder s (applyIndex r w v s) := by
  have hmove (b : RingBody) (ph : RingPhase) (n m : Nat) :
      KeepsHolds none (some r) s (Machine.markCrossing r b n m (s.setBody r (b.withPhase ph))) :=
    (KeepsHolds.setBody_but r _).trans (.markCrossing ..)
  unfold Machine.applyIndex
  split
  · split
    · cases w
      · exact (hmove ..).toKeepsOrder
      · exact (hmove ..).toKeepsOrder.trans (.retestHeld r)
    · exact .refl s
  · exact .refl s

theorem HoldSlot.touchesOccupied_iff {h : HoldSlot} {b : RingBody} {head tail : Index}
    (hph : b.phase = .tracking head tail) : h.touchesOccupied b = true ↔
      ∃ k ∈ h.slots, (k + 65536 - tail.toNat) % b.desc.slotCount < distance head tail := by
  simp [touchesOccupied, hph, slotOccupied]

/-- A head that moves on leaves the occupied slots occupied. -/
theorem HoldSlot.touchesOccupied_advance {h : HoldSlot} {b : RingBody} {head tail v : Index}
    (hph : b.phase = .tracking head tail) (hle : distance head tail ≤ distance v tail)
    (ho : h.touchesOccupied b = true) : h.touchesOccupied (b.withPhase (.tracking v tail)) = true := by
  obtain ⟨k, hk, hlt⟩ := (touchesOccupied_iff hph).1 ho
  exact (touchesOccupied_iff rfl).2 ⟨k, hk, hlt.trans_le hle⟩

theorem KeepsHolds.advanceHead {r : RingId} {b : RingBody} (hb : (s.ring r).body = some b) {head tail v : Index}
    (hph : b.phase = .tracking head tail) (hle : distance head tail ≤ distance v tail) :
    KeepsHolds x x s (s.setBody r (b.withPhase (.tracking v tail))) :=
  .setRing fun q hold hr _ ⟨b₀, hb₀, ho, hg, hp⟩ => by
    subst hr
    obtain rfl : b₀ = b := Option.some.inj (hb₀.symm.trans hb)
    exact ⟨_, by simp, HoldSlot.touchesOccupied_advance hph hle ho, hg, hp⟩

/-- After a change of a TRACKING ring's indices the write held on it is re-tested: it is released, or one of its slots is
occupied (R74). -/
theorem KeepsHolds.retestHeld {r : RingId} {b b' : RingBody} {head tail : Index} (h : KeepsHolds none (some r) s u)
    (hb : (s.ring r).body = some b) (holds : u.holds = s.holds) (hb' : (u.ring r).body = some b')
    (hph : b'.phase = .tracking head tail) (desc : b'.desc = b.desc) :
    KeepsHolds none none s (retestHeld r u) := by
  rcases hh : heldOn u r with _ | ⟨q, hold⟩
  · rw [retestHeld_of_none hh]
    exact h.trans (.of_heldOn_none hh)
  rw [retestHeld_of_tracking hh hb' hph]
  split
  · exact h.trans (.dropHeldOn hh InFlight.ungranted_release fun _ => rfl)
  · rename_i hfree
    refine ⟨h.toKeepsOrder, fun owed ho hs => ?_⟩
    obtain ⟨hone, hall⟩ := h.holds owed ho hs
    refine ⟨hone, fun q' => ⟨(hall q').1, fun hold' hq' _ => ?_⟩⟩
    by_cases hr : hold'.ring = r
    · have hheld := heldOn_of_one (r := r) hq' (hone.get_other hq')
      rw [if_pos hr, hh] at hheld
      obtain ⟨rfl, rfl⟩ : q = q' ∧ hold = hold' := by simpa using hheld
      obtain ⟨b₀, hb₀, -, hg, hp⟩ := (hs.2 q).2 hold (holds ▸ hq') (by simp)
      obtain rfl : b = b₀ := Option.some.inj (hb.symm.trans (hr ▸ hb₀))
      refine ⟨b', hr ▸ hb', ?_, desc ▸ hg, desc ▸ hp⟩
      simpa [HoldSlot.touchesOccupied, hph] using hfree
    · exact (hall q').2 hold' hq' fun heq => hr (Option.some.inj heq).symm

theorem KeepsHolds.applyIndex {r : RingId} {w : IndexWord} {v : Index}
    (rises : ∀ b head tail, (s.ring r).body = some b → b.phase = .tracking head tail → w = .head →
      distance head tail ≤ distance v tail) : KeepsHolds none none s (applyIndex r w v s) := by
  unfold Machine.applyIndex
  split
  · rename_i b hb
    split
    · rename_i head tail hph
      cases w with
      | head => exact (KeepsHolds.advanceHead hb hph (rises b head tail hb hph rfl)).trans (.markCrossing ..)
      | tail =>
        have hmove : KeepsHolds none (some r) s (Machine.markCrossing r b (distance head tail) (distance head v)
            (s.setBody r (b.withPhase (.tracking head v)))) := (KeepsHolds.setBody_but r _).trans (.markCrossing ..)
        exact hmove.retestHeld (b' := b.withPhase (.tracking head v)) hb (by simp) (by simp) rfl rfl
    · exact .refl s
  · exact .refl s

theorem KeepsHolds.observeIndex (p : Port) (r : RingId) (w : IndexWord) (y : WriteWord) :
    KeepsHolds x x s (observeIndex p r w y s) := by
  rcases observeIndex_cases p r w y s with h | ⟨b, fault, oh, ot, oh', ot', hb, hph, -, -, h⟩
  · rw [h]
    exact .refl s
  · have hnt : (s.ring r).isTracking = false := RingEntry.isTracking_eq_false hb (by simp [hph])
    rcases h with h | ⟨v, -, -, h⟩ <;> rw [h]
    · exact .setRing_untracked hnt _
    · exact (KeepsHolds.setRing_untracked hnt _).trans (.raiseRing ..)

/-! ### The grant of a port's request -/

theorem KeepsHolds.applyNoticeTail (p : Port) (v : Index) : KeepsHolds x x s (applyNoticeTail p v s) := by
  unfold Machine.applyNoticeTail
  split
  · exact .setUnit _ _
  · exact .refl s

theorem KeepsHolds.restartEngine : KeepsHolds x x s (restartEngine s) := by
  unfold Machine.restartEngine
  dsimp only
  split
  · exact (KeepsHolds.presentEngine _).trans ((KeepsHolds.setEngine _).trans (.presentEngine _))
  · exact (KeepsHolds.presentEngine _).trans .fetchOrIdle

theorem KeepsHolds.applyHead (v : Index) : KeepsHolds x x s (applyHead v s) := by
  unfold Machine.applyHead
  dsimp only
  split
  · exact (KeepsHolds.setEngine _).trans .fetchOrIdle
  · exact (KeepsHolds.setEngine _).trans .restartEngine
  · exact .setEngine _

theorem KeepsOrder.grantEffect (p : Port) (e : InFlight) : KeepsOrder s (grantEffect p e s) := by
  have hobserve (r : RingId) (w : IndexWord) (y : WriteWord) : KeepsHolds none none s (Machine.observeIndex p r w y s) :=
    .observeIndex ..
  have hnotice (v : Index) : KeepsHolds none none s (Machine.applyNoticeTail p v s) := .applyNoticeTail ..
  have hhead (v : Index) : KeepsHolds none none s (Machine.applyHead v s) := .applyHead v
  unfold Machine.grantEffect
  split
  · exact .refl s
  · split
    · exact (hnotice _).toKeepsOrder
    · exact (hhead _).toKeepsOrder
    · split
      · exact .applyIndex ..
      · exact (hobserve ..).toKeepsOrder
    · split
      · exact (hobserve ..).toKeepsOrder
      · exact .refl s

/-- The granted entry fits, so a head it moves does not fall back (R27, R33). -/
theorem KeepsHolds.grantEffect (h : TrackingSound s) (hg : GrantedFits s p e) :
    KeepsHolds none none s (grantEffect p e s) := by
  unfold Machine.grantEffect
  split
  · exact .refl s
  · rename_i y hy
    split
    · exact .applyNoticeTail ..
    · exact .applyHead _
    · rename_i r w hm
      split
      · refine .applyIndex fun b head tail hb hph hw => ?_
        subst hw
        obtain ⟨-, -, hbody⟩ := trackingSound_iff.1 h
        obtain ⟨hcount, hfill⟩ := (hbody r b hb).1
        have hfill := hfill head tail hph
        have hfit := hg.fits r b hb
        simp only [EntryFits, hph] at hfit
        have hv := (hfit.1 (marks_of_mark hm)).2
        rw [writesIndex_of hy, decide_eq_true_eq] at hv
        have hsum : distance (lowHalf y.data) tail = distance (lowHalf y.data) head + distance head tail :=
          distance_advance_head (by omega)
        omega
      · exact .observeIndex ..
    · split
      · exact .observeIndex ..
      · exact .refl s

/-- Memory owes port `p` one answer more, of the serial `n`. -/
def owing (owed : Port → List Nat) (p : Port) (n : Nat) : Port → List Nat :=
  fun q => if q = p then owed p ++ [n] else owed q

theorem owedTo_handOver (q : Requester) (serial : Nat) (ring : Option RingId) (applied : Bool) (a : Access) :
    owedTo (handOver q (.port p serial ring applied) a s) = owing (owedTo s) p serial := by
  funext q'
  by_cases hq : q' = p
  · subst hq
    simp [owedTo, owing, handOver, OutEntry.awaited?]
  · simp [owedTo, owing, handOver, OutEntry.awaited?, hq, Ne.symm hq]

/-- The ELIGIBLE entry becomes GRANTED: the last of those memory owes an answer. -/
theorem InOrder.granted {owed : Port → List Nat} (h : InOrder owed s) (he : eligibleEntry s p = some e) :
    InOrder (owing owed p e.serial)
      (changeEntry p InFlight.isEligible (fun e => { e with stage := .granted }) s) := by
  obtain ⟨hel, before, after, hl, hb⟩ := List.find?_eq_some_iff_append.1 he
  rw [changeEntry_cut hl (by simpa using hb) hel]
  intro q
  by_cases hq : q = p
  · subst hq
    have hlist := h q
    rw [hl] at hlist
    have hw := InFlight.isWaiting_of_isEligible hel
    simpa [owing, InFlight.isGranted] using hlist.replace (e' := { e with stage := .granted }) (hlist.atTurn_of_isWaiting hw)
      (InFlight.isGranted_of_isWaiting hw) rfl (by simp [InFlight.isHeld])
  · simpa [owing, hq, State.inFlight_setInFlight_ne _ _ hq, PerPort.get_set_ne _ _ hq] using h q

theorem InOrder.handOver {owed : Port → List Nat} (h : InOrder owed s) (q : Requester) (o : Origin) (a : Access) :
    InOrder owed (handOver q o a s) := h

theorem Passes.grantPort (he : eligibleEntry s p = some e) : Passes s (grantPort p e s) := by
  unfold Machine.grantPort
  dsimp only
  set granted := changeEntry p InFlight.isEligible (fun e => { e with stage := .granted }) s with hgr
  have horder : KeepsOrder granted (drainTestSeeding (Machine.grantEffect p e granted)) := by
    have hdrain : KeepsHolds none none (Machine.grantEffect p e granted)
      (drainTestSeeding (Machine.grantEffect p e granted)) := .drainTestSeeding
    exact (KeepsOrder.grantEffect p e).trans hdrain.toKeepsOrder
  refine ⟨fun hs => ?_, fun ht hs hh => ?_⟩
  · rw [answersInOrder_iff] at hs ⊢
    have howed : owedTo (drainTestSeeding (Machine.grantEffect p e granted)) = owedTo s :=
      funext fun q => (horder.owed q).trans rfl
    rw [owedTo_handOver, howed]
    exact (horder.order _ (hs.granted he)).handOver _ _ _
  · have hlist : HoldsBut none granted := by
      refine hh.mono rfl (fun q => ?_) fun _ _ _ _ => id
      by_cases hq : q = p
      · subst hq
        rw [hgr, changeEntry, State.inFlight_setInFlight_self]
        refine any_isHeld_updateFirst (fun e hel => ?_) _
        have hst : e.stage = .eligible := by simpa [InFlight.isEligible] using hel
        simp [InFlight.isHeld, hst]
      · rw [hgr, changeEntry, State.inFlight_setInFlight_ne _ _ hq]
    have htr : TrackingSound granted := (Keeps.changeEntry fun _ _ => .leaves rfl).tracking ht
    have hkeep : KeepsHolds none none granted (drainTestSeeding (Machine.grantEffect p e granted)) :=
      (KeepsHolds.grantEffect htr (.of_eligibleEntry ht he)).trans .drainTestSeeding
    exact hkeep.holds _ ((answersInOrder_iff.1 hs).granted he) hlist

/-! ### The grants -/

/-- What the part's own requests are handed over with owes no port an answer. -/
theorem KeepsHolds.handOver {q : Requester} {o : Origin} {a : Access}
    (h : ∀ p, (OutEntry.mk o false).awaited? p = none) : KeepsHolds x x s (handOver q o a s) := by
  refine .of_owed (by simp [Machine.handOver, State.ring]) fun p => ?_
  simp [owedTo, Machine.handOver, List.filterMap_append, h]

theorem KeepsHolds.engineGrantEffect (k : EngineAccess) : KeepsHolds x x s (engineGrantEffect k s) := by
  unfold Machine.engineGrantEffect
  split
  · split
    · exact .of_same rfl (by simp [State.ring])
    · exact .refl s
  · split
    · exact (KeepsHolds.setEngine _).trans .fetchOrIdle
    · exact .refl s
  · split
    · exact .presentEngine _
    · exact .refl s
  all_goals exact .refl s

theorem KeepsHolds.grantEngine (q : EngineRequest) (rest : List EngineRequest) :
    KeepsHolds x x s (grantEngine q rest s) :=
  (KeepsHolds.setEngine _).trans ((KeepsHolds.engineGrantEffect q.kind).trans (.handOver fun _ => rfl))

theorem KeepsHolds.grantNotice (j : NoticeJob) : KeepsHolds x x s (grantNotice j s) :=
  (KeepsHolds.setJob _).trans (.handOver fun _ => rfl)

theorem Passes.refl (s : State) : Passes s s := (KeepsHolds.refl s).passes

theorem Passes.execGrant (h : execGrant s = .next t) : Passes s t := by
  obtain rfl := Host.Outcome.next.inj h
  unfold arbitrate
  split
  · unfold grantTo
    split
    · split
      · exact .grantPort ‹_›
      · exact .refl s
    · split
      · exact (KeepsHolds.grantEngine ..).passes
      · exact .refl s
    · split
      · exact (KeepsHolds.grantNotice _).passes
      · exact .refl s
  · exact .refl s

end Sys2Proof.Machine
end

section
/-! SUPPORT. Memory responses (R174, R175) and the notice writer (06) keep the order of answers and the held writes: an
answer to a port comes for its oldest GRANTED entry, so a HELD one is never answered. -/

namespace Sys2Proof.Machine

variable {s t u : State} {x : Option RingId} {p : Port} {e : InFlight}

/-! ### Answers to port requests (R36, R175) -/

/-- Two entries of a list in order with the same serial are the same entry. -/
theorem ListInOrder.eq_of_serial {l : List InFlight} {n : Nat} {owed : List Nat} (h : ListInOrder l n owed)
    {y z : InFlight} (hy : y ∈ l) (hz : z ∈ l) (hs : y.serial = z.serial) : y = z :=
  List.inj_on_of_nodup_map (h.serials.imp ne_of_lt) hy hz hs

/-- The entry whose serial memory owes first is GRANTED. -/
theorem ListInOrder.isGranted_of_owed {l : List InFlight} {n : Nat} {owed : List Nat}
    (h : ListInOrder l n (e.serial :: owed)) (he : e ∈ l) : e.isGranted = true := by
  have hm : e.serial ∈ (l.filter InFlight.isGranted).map (·.serial) := by simp [h.granted]
  obtain ⟨g, hg, hs⟩ := List.mem_map.1 hm
  obtain ⟨hgl, hgg⟩ := List.mem_filter.1 hg
  exact h.eq_of_serial hgl he hs ▸ hgg

/-- The oldest GRANTED entry is answered: it becomes DONE where it stands, and memory owes it no more. -/
theorem ListInOrder.answer {before after : List InFlight} {n : Nat} {owed : List Nat}
    (h : ListInOrder (before ++ e :: after) n (e.serial :: owed)) (status : BusStatus) (data : List Word) :
    ListInOrder (before ++ { e with stage := .done status data } :: after) n owed := by
  have hg := h.isGranted_of_owed (by simp)
  have hrank : ({ e with stage := .done status data } : InFlight).rank = e.rank :=
    (InFlight.rank_of_isGranted hg).symm ▸ rfl
  have hbefore : before.filter InFlight.isGranted = [] := by
    have hser := h.serials
    have hgr := h.granted
    rw [List.map_append, List.pairwise_append] at hser
    rw [List.filter_append] at hgr
    rcases hb : before.filter InFlight.isGranted with _ | ⟨y, ys⟩
    · rfl
    · have hy : y.serial = e.serial := by
        rw [hb] at hgr
        exact (List.cons.inj hgr).1
      have hyb : y ∈ before := List.mem_of_mem_filter (hb ▸ List.mem_cons_self)
      have := hser.2.2 _ (List.mem_map_of_mem hyb) e.serial (by simp)
      omega
  have hlist : ListPasses (before ++ e :: after) (before ++ { e with stage := .done status data } :: after) :=
    .of_forall₂ (List.rel_append (List.forall₂_same.2 fun y _ => .stays y)
      (.cons (.leaves rfl) (List.forall₂_same.2 fun y _ => .stays y)))
  refine ⟨hlist.once h.once, ?_, ?_, fun y hy => ?_, ?_⟩
  · simpa [hrank] using h.ranks
  · simpa using h.serials
  · rcases List.mem_append.1 hy with hm | hm
    · exact h.fresh y (by simp [hm])
    · rcases List.mem_cons.1 hm with rfl | hm
      · exact h.fresh e (by simp)
      · exact h.fresh y (by simp [hm])
  · have hgr := h.granted
    rw [List.filter_append, hbefore, List.nil_append, List.filter_cons_of_pos hg, List.map_cons] at hgr
    rw [List.filter_append, hbefore, List.nil_append, List.filter_cons_of_neg (by simp [InFlight.isGranted])]
    exact (List.cons.inj hgr).2

/-- The state after memory has answered the oldest outstanding entry, a request of port `p`. -/
theorem Passes.done {serial : Nat} {ring : Option RingId} {applied : Bool} {rest : List OutEntry}
    (hout : s.outstanding = ⟨.port p serial ring applied, false⟩ :: rest) (he : entryWith s p serial = some e)
    (status : BusStatus) (data : List Word) :
    Passes s (changeEntry p (fun e => e.serial == serial) (fun e => { e with stage := .done status data })
      (s.setOutstanding rest)) := by
  obtain ⟨hser, before, after, hl, hb⟩ := List.find?_eq_some_iff_append.1 he
  obtain rfl : e.serial = serial := by simpa using hser
  have howed : owedTo s p = e.serial :: owedTo (s.setOutstanding rest) p := by
    simp [owedTo, hout, OutEntry.awaited?]
  have hne (q : Port) (hq : q ≠ p) : owedTo s q = owedTo (s.setOutstanding rest) q := by
    simp [owedTo, hout, OutEntry.awaited?, Ne.symm hq]
  have hcut : (changeEntry p (fun e' => e'.serial == e.serial) (fun e => { e with stage := .done status data })
      (s.setOutstanding rest)) =
        (s.setOutstanding rest).setInFlight p (before ++ { e with stage := .done status data } :: after) :=
    changeEntry_cut (by simpa using hl) (by simpa using hb) (by simp)
  rw [hcut]
  have hlist (hs : AnswersInOrder s) :
      ListInOrder (before ++ e :: after) (s.ports.get p).nextSerial
        (e.serial :: owedTo (s.setOutstanding rest) p) := by
    rw [← howed, ← hl]
    exact answersInOrder_iff.1 hs p
  refine ⟨fun hs => answersInOrder_iff.2 fun q => ?_, fun _ hs hh => hh.mono rfl (fun q => ?_) fun _ _ _ _ => id⟩
  · by_cases hq : q = p
    · subst hq
      simpa [owedTo] using (hlist hs).answer status data
    · have := answersInOrder_iff.1 hs q
      rw [hne q hq] at this
      simpa [owedTo, State.inFlight_setInFlight_ne _ _ hq, PerPort.get_set_ne _ _ hq] using this
  · by_cases hq : q = p
    · subst hq
      have hg := (hlist hs).isGranted_of_owed (by simp)
      have hst : e.stage = .granted := by simpa [InFlight.isGranted] using hg
      have hnot : e.isHeld = false := by rw [InFlight.isHeld, hst]; rfl
      have hdone : ({ e with stage := .done status data } : InFlight).isHeld = false := rfl
      simp only [State.inFlight_setInFlight_self, hl, List.any_append, List.any_cons, hnot, hdone]
    · rw [State.inFlight_setInFlight_ne _ _ hq, State.inFlight_setOutstanding]

theorem Passes.execMemoryResponse {status : MemStatus} {data : List Word}
    (h : execMemoryResponse status data s = .next t) : Passes s t := by
  obtain rfl := Host.Outcome.next.inj h
  unfold memoryAnswer answered
  split
  · exact .refl s
  · rename_i o rest hout
    split
    · rename_i hcond
      rcases o with ⟨⟨q, serial, ring, applied⟩ | k | ⟨v, w⟩, d⟩
      · obtain ⟨rfl, hit⟩ : d = false ∧ _ := by simpa using hcond
        obtain ⟨e, he, -⟩ := (Option.any_eq_true ..).1 hit
        have he' : entryWith (s.setOutstanding rest) q serial = some e := he
        have hdone := Passes.done hout he (busStatus status) (responseData e.request.access data)
        simp only [answerPort, he']
        split
        · split
          · exact hdone.trans_keeps (.faultEntry ..)
          · exact hdone
        · exact hdone
      · simp [answersPort] at hcond
      · simp [answersPort] at hcond
    · exact .refl s

/-! ### Answers to the part's own accesses -/

/-- An answer to the part's own access, or to a discarded entry, is owed to no port. -/
theorem KeepsHolds.answerTaken {o : OutEntry} {rest : List OutEntry} (hout : s.outstanding = o :: rest)
    (ho : ∀ p, o.awaited? p = none) : KeepsHolds x x s (s.setOutstanding rest) :=
  .of_owed (by simp) fun p => by simp [owedTo, hout, ho]

theorem KeepsHolds.answered {isIt : Origin → Bool} {act : Origin → State → State}
    (hport : ∀ p n ring applied, isIt (.port p n ring applied) = false) (h : ∀ o u, KeepsHolds x x u (act o u)) :
    KeepsHolds x x s (answered isIt act s) := by
  unfold Machine.answered
  split
  · exact .refl s
  · rename_i o rest hout
    split
    · rename_i hcond
      refine (KeepsHolds.answerTaken hout fun p => ?_).trans (h _ _)
      rcases o with ⟨⟨q, n, ring, applied⟩ | k | ⟨v, w⟩, d⟩
      · simp [hport] at hcond
      · rfl
      · rfl
    · exact .refl s

theorem KeepsHolds.execDiscardedResponse (h : execDiscardedResponse s = .next t) : KeepsHolds none none s t := by
  obtain rfl := Host.Outcome.next.inj h
  unfold dropResponse
  split
  · exact .refl s
  · rename_i o rest hout
    split
    · rename_i hd
      refine .answerTaken hout fun p => ?_
      rcases o with ⟨⟨q, n, ring, applied⟩ | k | ⟨v, w⟩, d⟩ <;> simp_all [OutEntry.awaited?]
    · exact .refl s

/-- No write is held on the ring a seed arrives for. -/
theorem KeepsHolds.fillSeed (r : RingId) (w : IndexWord) (seed : Seed) : KeepsHolds x x s (fillSeed r w seed s) := by
  unfold Machine.fillSeed
  split
  · rename_i b hb
    split
    · rename_i rec hph
      have hnt : (s.ring r).isTracking = false := RingEntry.isTracking_eq_false hb (by simp [hph])
      split
      · dsimp only
        split
        · exact (KeepsHolds.setRing_untracked hnt _).trans (KeepsHolds.unstallAll.trans (.settleWait ..))
        · exact .setRing_untracked hnt _
      · exact .refl s
    · exact .refl s
  · exact .refl s

theorem KeepsHolds.execSeedResponse {status : MemStatus} {word : Word} (h : execSeedResponse status word s = .next t) :
    KeepsHolds none none s t := by
  obtain rfl := Host.Outcome.next.inj h
  refine .answered (fun _ _ _ _ => rfl) fun o u => ?_
  split
  · exact .fillSeed ..
  · exact .refl u

theorem answersEngine_port (k : EngineAccess) (p : Port) (n : Nat) (ring : Option RingId) (applied : Bool) :
    answersEngine k (.port p n ring applied) = false := by
  simp [answersEngine]

theorem KeepsHolds.execFetchResponse {status : MemStatus} {words : SlotWords}
    (h : execFetchResponse status words s = .next t) : KeepsHolds none none s t := by
  obtain rfl := Host.Outcome.next.inj h
  refine .answered (answersEngine_port _) fun _ u => ?_
  unfold fetched
  split
  · split
    · exact .setEngine _
    · exact .haltEngine _
  · exact .refl u

theorem KeepsHolds.execReportBurstResponse {status : MemStatus} (h : execReportBurstResponse status s = .next t) :
    KeepsHolds none none s t := by
  obtain rfl := Host.Outcome.next.inj h
  refine .answered (answersEngine_port _) fun _ u => ?_
  unfold reportBurstAnswered
  split
  · split
    · exact (KeepsHolds.setEngine _).trans (.presentEngine _)
    · exact .haltEngine _
  · exact .refl u

theorem KeepsHolds.execReportTailResponse {status : MemStatus} (h : execReportTailResponse status s = .next t) :
    KeepsHolds none none s t := by
  obtain rfl := Host.Outcome.next.inj h
  refine .answered (answersEngine_port _) fun _ u => ?_
  unfold reportTailAnswered
  split
  · split
    · split
      · exact .setEngine _
      · exact .haltEngine _
    · exact .refl u
  · exact .refl u

theorem KeepsHolds.execInitialisationBurstResponse (status : MemStatus)
    (h : execInitialisationBurstResponse status s = .next t) : KeepsHolds none none s t := by
  obtain rfl := Host.Outcome.next.inj h
  exact .answered (answersEngine_port _) fun _ u => .refl u

theorem KeepsHolds.execHaltBurstResponse (status : MemStatus) (h : execHaltBurstResponse status s = .next t) :
    KeepsHolds none none s t := by
  obtain rfl := Host.Outcome.next.inj h
  exact .answered (answersEngine_port _) fun _ u => .refl u

theorem KeepsHolds.execRestartStatusWriteResponse (status : MemStatus)
    (h : execRestartStatusWriteResponse status s = .next t) : KeepsHolds none none s t := by
  obtain rfl := Host.Outcome.next.inj h
  exact .answered (answersEngine_port _) fun _ u => .refl u

/-! ### The notice writer (R95, R107 to R111, R116) -/

theorem KeepsHolds.serve (p : Port) (w : NoticeWrite) (a : Access) : KeepsHolds x x s (serve p w a s) :=
  .of_same rfl (by simp [Machine.serve, State.ring])

theorem KeepsHolds.nextWrite (p : Port) (w : NoticeWrite) (a : Access) : KeepsHolds x x s (nextWrite p w a s) :=
  .setJob _

theorem KeepsHolds.execSetupJob (h : execSetupJob s = .next t) : KeepsHolds none none s t := by
  obtain rfl := Host.Outcome.next.inj h
  unfold serveSetup
  split
  · split
    · exact .serve ..
    · exact .refl s
  · exact .refl s

theorem KeepsHolds.setupAnswered (p : Port) (w : NoticeWrite) (status : MemStatus) :
    KeepsHolds x x s (setupAnswered p w status s) := by
  unfold Machine.setupAnswered
  split
  · exact .refl s
  · split
    · exact (KeepsHolds.setJob none).trans ((KeepsHolds.unitOff p).trans (.settleWait ..))
    · exact .nextWrite ..
    · exact (KeepsHolds.setUnit p _).trans ((KeepsHolds.setJob none).trans (.settleWait ..))
    · exact .refl s

theorem KeepsHolds.execSetupWriteResponse {status : MemStatus} (h : execSetupWriteResponse status s = .next t) :
    KeepsHolds none none s t := by
  obtain rfl := Host.Outcome.next.inj h
  refine .answered (fun _ _ _ _ => rfl) fun o u => ?_
  split
  · exact .setupAnswered ..
  · exact .refl u

theorem KeepsHolds.takeRecord (p : Port) (v : NoticeUnit) (closing : Bool) (src : Source) :
    KeepsHolds x x s (takeRecord p v closing src s) := by
  have hempty : KeepsHolds x x s (dequeue src p (setPendingSet src p 0 s)) := .of_same (by simp) (by simp)
  exact hempty.trans ((KeepsHolds.setUnit p _).trans (.serve ..))

theorem KeepsHolds.execRecordTaking (h : execRecordTaking s = .next t) : KeepsHolds none none s t := by
  obtain rfl := Host.Outcome.next.inj h
  unfold serveRecord
  split
  · split
    · exact .takeRecord ..
    · exact .refl s
  · exact .refl s

theorem KeepsHolds.failRecord (p : Port) (v : NoticeUnit) (rec : RecordInFlight) (closing : Bool) (f : FailingWrite) :
    KeepsHolds x x s (failRecord p v rec closing f s) := by
  have hback : KeepsHolds x x s
      (Machine.returnKinds p rec ((s.setUnit p (some { v with phase := .halted f })).setJob none)) :=
    (KeepsHolds.setUnit p _).trans ((KeepsHolds.setJob none).trans (.returnKinds ..))
  unfold Machine.failRecord
  dsimp only
  split
  · exact hback.trans ((KeepsHolds.unitOff p).trans (.settleWait ..))
  · exact hback

theorem KeepsHolds.completeRecord (p : Port) (v : NoticeUnit) (closing : Bool) :
    KeepsHolds x x s (completeRecord p v closing s) := by
  have hset : KeepsHolds x x s ((s.setUnit p
      (some { v with head := v.head + 1, seq := v.seq + 1, phase := .ready none closing })).setJob none) :=
    (KeepsHolds.setUnit p _).trans (.setJob none)
  unfold Machine.completeRecord
  dsimp only
  split
  · exact hset.trans ((KeepsHolds.unitOff p).trans (.settleWait ..))
  · exact hset

theorem KeepsHolds.recordAnswered (p : Port) (w : NoticeWrite) (status : MemStatus) :
    KeepsHolds x x s (recordAnswered p w status s) := by
  unfold Machine.recordAnswered
  split
  · exact .refl s
  · split
    · split
      · exact (KeepsHolds.setUnit p _).trans (.nextWrite ..)
      · exact .failRecord ..
      · exact .completeRecord ..
      · exact .failRecord ..
      · exact .refl s
    · exact .refl s

theorem KeepsHolds.execRecordBurstResponse {status : MemStatus} (h : execRecordBurstResponse status s = .next t) :
    KeepsHolds none none s t := by
  obtain rfl := Host.Outcome.next.inj h
  refine .answered (fun _ _ _ _ => rfl) fun o u => ?_
  split
  · exact .recordAnswered ..
  · exact .refl u

theorem KeepsHolds.execNoticeHeadWriteResponse {status : MemStatus}
    (h : execNoticeHeadWriteResponse status s = .next t) : KeepsHolds none none s t := by
  obtain rfl := Host.Outcome.next.inj h
  refine .answered (fun _ _ _ _ => rfl) fun o u => ?_
  split
  · exact .recordAnswered ..
  · exact .refl u

end Sys2Proof.Machine
end

section
/-! SUPPORT. Acceptance, departure and presentation (R163 to R169) keep the order of answers and the held writes. A write
is held here alone: its ring is TRACKING in guard mode HOLD, and it is an OVERWRITE (R72). -/

namespace Sys2Proof.Machine

variable {s t u : State} {x : Option RingId} {p : Port} {e : InFlight}

/-! ### Acceptance and departure (R163, R166) -/

/-- An accepted request joins the list QUEUED, under the next serial. -/
theorem ListInOrder.append {l : List InFlight} {n : Nat} {owed : List Nat} (h : ListInOrder l n owed) (q : Request) :
    ListInOrder (l ++ [⟨n, q, .queued, none, none⟩]) (n + 1) owed := by
  obtain ⟨once, ranks, serials, fresh, granted⟩ := h
  have hlist : ListPasses l (l ++ [⟨n, q, .queued, none, none⟩]) := .append l rfl
  refine ⟨hlist.once once, ?_, ?_, fun y hy => ?_, ?_⟩
  · have hlast : (⟨n, q, .queued, none, none⟩ : InFlight).rank = 2 := rfl
    simpa [List.pairwise_append, ranks, hlast] using fun y _ => y.rank_le_two
  · simpa [List.pairwise_append, serials] using fresh
  · rcases List.mem_append.1 hy with hy | hy
    · exact (fresh y hy).trans (Nat.lt_succ_self n)
    · obtain rfl := List.mem_singleton.1 hy
      exact Nat.lt_succ_self n
  · rw [List.filter_append, List.filter_cons_of_neg (by simp [InFlight.isGranted])]
    simpa using granted

theorem KeepsHolds.execAcceptance {q : Request} (h : execAcceptance p q s = .next t) : KeepsHolds none none s t := by
  obtain rfl := Host.Outcome.next.inj h
  unfold accept
  split
  · refine ⟨⟨fun owed ho p' => ?_, fun _ => rfl⟩, fun owed _ hh => hh.mono rfl (fun p' => ?_) fun _ _ _ _ => id⟩ <;>
      by_cases hp : p' = p
    · subst hp
      simpa [State.inFlight] using (ho p').append q
    · simpa [State.inFlight, PerPort.get_set_ne _ _ hp] using ho p'
    · subst hp
      simp only [State.inFlight, PerPort.get_set_self, List.any_append]
      exact Bool.or_false _
    · simp only [State.inFlight, PerPort.get_set_ne _ _ hp]
  · exact .refl s

/-- An answered entry departs from the front. -/
theorem ListInOrder.tail {l : List InFlight} {n : Nat} {owed : List Nat} (h : ListInOrder (e :: l) n owed)
    (he : e.isGranted = false) : ListInOrder l n owed where
  once := (ListPasses.of_sublist (List.sublist_cons_self e l)).once h.once
  ranks := (List.pairwise_cons.1 h.ranks).2
  serials := (List.pairwise_cons.1 h.serials).2
  fresh y hy := h.fresh y (List.mem_cons_of_mem e hy)
  granted := by
    have hg := h.granted
    rwa [List.filter_cons_of_neg (by simp [he])] at hg

theorem KeepsHolds.execResponseDeparture (h : execResponseDeparture p s = .next t) : KeepsHolds none none s t := by
  obtain rfl := Host.Outcome.next.inj h
  unfold depart
  split
  · exact .refl s
  · rename_i e rest hl
    split
    · rename_i status data hst
      have hlist : KeepsHolds none none s (s.setInFlight p rest) := by
        have hgranted : e.isGranted = false := by rw [InFlight.isGranted, hst]; rfl
        have hheld : e.isHeld = false := by rw [InFlight.isHeld, hst]; rfl
        refine .setInFlight (fun n owed ho => ?_) fun _ _ _ => ?_
        · rw [hl] at ho
          exact ho.tail hgranted
        · rw [hl, List.any_cons, hheld, Bool.false_or]
      exact hlist.trans (.of_same rfl (by simp [State.ring]))
    · exact .refl s

/-! ### The presented entry (R164, R165) -/

theorem isHeld_of_isQueued (h : e.isQueued = true) : e.isHeld = false := by
  have hst : e.stage = .queued := by simpa [InFlight.isQueued] using h
  rw [InFlight.isHeld, hst]
  rfl

/-- The presented entry takes a stage other than HELD. -/
theorem KeepsHolds.changePresented (hw : NoneWaiting s p) {f : InFlight → InFlight} (hf : ∀ e, Ungranted f e)
    (held : ∀ e, (f e).isHeld = false) : KeepsHolds x x s (changePresented p f s) :=
  .setInFlight (fun _ _ h => h.change_queued hw hf) fun _ _ _ =>
    any_isHeld_updateFirst (fun e hq => (held e).trans (isHeld_of_isQueued hq).symm) _

theorem KeepsHolds.refusePresented (hw : NoneWaiting s p) (cls : Option AccessClass) :
    KeepsHolds x x s (refusePresented p cls s) :=
  .changePresented hw (fun _ => ⟨rfl, fun _ => rfl, rfl⟩) fun _ => rfl

theorem KeepsHolds.stallPresented (hw : NoneWaiting s p) (cls : AccessClass) :
    KeepsHolds x x s (stallPresented p cls s) :=
  .changePresented hw (fun _ => ⟨rfl, fun _ => rfl, rfl⟩) fun _ => rfl

theorem KeepsHolds.forwardPresented (hw : NoneWaiting s p) (cls : AccessClass) (mark : Option ApplyMark) :
    KeepsHolds x x s (forwardPresented p cls mark s) :=
  .changePresented hw (fun _ => ⟨rfl, by simp [InFlight.isHeld], rfl⟩) fun _ => rfl

/-- A write that R70 allows to be held is held, while the other port's slot is EMPTY (R72). -/
theorem KeepsHolds.holdPresented (hw : NoneWaiting s p) (hq : oldestQueued s p = some e) (cls : AccessClass)
    {h : HoldSlot} (empty : s.holds.get (other p) = none) (hj : h.Justified s p) :
    KeepsHolds none none s (holdPresented p cls h s) := by
  set f : InFlight → InFlight := fun e => { e with stage := .held, cls := some cls, mark := none }
  have hf (e : InFlight) : Ungranted f e := ⟨rfl, fun _ => rfl, rfl⟩
  have hslot : KeepsOrder s (s.setHold p (some h)) := .of_ports rfl fun _ => rfl
  have horder : KeepsOrder s (Machine.holdPresented p cls h s) :=
    hslot.trans (.setInFlight fun _ _ ho => ho.change_queued hw hf)
  obtain ⟨hqe, before, after, hl, hb⟩ := List.find?_eq_some_iff_append.1 hq
  have hcut : Machine.holdPresented p cls h s = (s.setHold p (some h)).setInFlight p (before ++ f e :: after) :=
    changeEntry_cut (by simpa using hl) (by simpa using hb) hqe
  refine ⟨horder, fun owed ho hs => ?_⟩
  rw [hcut]
  refine ⟨?_, fun q => ?_⟩
  · cases p
    · exact .inr empty
    · exact .inl empty
  · by_cases hqp : q = p
    · subst hqp
      have hheld : (f e).isHeld = true := rfl
      refine ⟨by simp [hheld], fun h' hh' _ => ?_⟩
      obtain rfl : h = h' := by simpa using hh'
      exact hj
    · rw [State.inFlight_setInFlight_ne _ _ hqp, State.setInFlight_holds, State.setHold_holds,
        PerPort.get_set_ne _ _ hqp]
      exact hs.2 q

/-! ### The classes (R25 to R32, R46 to R55, R113, R115, R122, R169) -/

/-- A counted violation whose request is refused. -/
theorem KeepsHolds.chargeRefuse (hw : NoneWaiting s p) (cls : Option AccessClass) (r : RingId) (k : ViolationKind)
    (addr : Word) : KeepsHolds x x s (Machine.refusePresented p cls (Machine.chargeViolation r k p addr s)) :=
  (KeepsHolds.chargeViolation ..).trans (.refusePresented (hw.of_ports (by simp)) _)

/-- A counted violation whose request is forwarded. -/
theorem KeepsHolds.chargeForward (hw : NoneWaiting s p) (cls : AccessClass) (r : RingId) (k : ViolationKind)
    (addr : Word) :
    KeepsHolds x x s (Machine.forwardPresented p cls none (Machine.chargeViolation r k p addr s)) :=
  (KeepsHolds.chargeViolation ..).trans (.forwardPresented (hw.of_ports (by simp)) _ _)

theorem KeepsHolds.presentIndexWrite (hw : NoneWaiting s p) (r : RingId) (w : IndexWord) (d : Descriptor)
    (head tail : Index) (addr : Word) (y : WriteWord) :
    KeepsHolds none none s (presentIndexWrite p r w d head tail addr y s) := by
  unfold Machine.presentIndexWrite
  split
  · exact .forwardPresented hw ..
  · split
    · exact (KeepsHolds.chargeViolation ..).trans ((KeepsHolds.faultEntry ..).trans
        (.forwardPresented ((hw.of_ports (chargeViolation_ports ..)).faultEntry _ _) _ _))
    · exact .chargeRefuse hw ..
    · exact .chargeRefuse hw ..

theorem KeepsHolds.presentIndex (hw : NoneWaiting s p) (r : RingId) (w : IndexWord) (a : Access) :
    KeepsHolds none none s (presentIndex p r w a s) := by
  unfold Machine.presentIndex
  split
  · exact .forwardPresented hw ..
  · split
    · exact .stallPresented hw _
    · split
      · exact .presentIndexWrite hw ..
      · exact .forwardPresented hw ..
    · exact .forwardPresented hw ..
    · exact .forwardPresented hw ..

/-- An OVERWRITE is the producer's and touches an occupied slot (R47). -/
theorem occupancyCheck_overwrite {d : Descriptor} {head tail : Index} {a : Access}
    (h : occupancyCheck d head tail p a = some .overwrite) :
    d.producer = p ∧ (slotsTouched d a).any (slotOccupied d.slotCount head tail) = true := by
  unfold occupancyCheck at h
  dsimp only at h
  split at h
  · rename_i hp
    split at h
    · rename_i ho
      exact ⟨hp.symm, (Bool.and_eq_true_iff.1 ho).2⟩
    · cases h
  · split at h
    · split at h <;> cases h
    · split at h <;> cases h

theorem KeepsHolds.presentDataViolation (hw : NoneWaiting s p) (hq : oldestQueued s p = some e) {r : RingId}
    {b : RingBody} (hb : (s.ring r).body = some b) {head tail : Index} (hph : b.phase = .tracking head tail)
    {k : ViolationKind} {a : Access} (hk : occupancyCheck b.desc head tail p a = some k) :
    KeepsHolds none none s (presentDataViolation p r b.desc k a s) := by
  unfold Machine.presentDataViolation
  split
  · exact .chargeForward hw ..
  · exact .chargeRefuse hw ..
  · rename_i hg
    split
    · rename_i hover
      subst hover
      unfold presentCandidate
      split
      · rename_i hempty
        obtain ⟨hp, ho⟩ := occupancyCheck_overwrite hk
        refine .holdPresented hw hq _ hempty ⟨b, hb, ?_, hg, hp⟩
        simpa only [HoldSlot.touchesOccupied, hph] using ho
      · exact .chargeRefuse hw ..
    · exact .chargeRefuse hw ..

theorem KeepsHolds.presentData (hw : NoneWaiting s p) (hq : oldestQueued s p = some e) (r : RingId) (a : Access) :
    KeepsHolds none none s (presentData p r a s) := by
  unfold Machine.presentData
  split
  · exact .forwardPresented hw ..
  · split
    · exact .stallPresented hw _
    · split
      · exact .forwardPresented hw ..
      · exact .presentDataViolation hw hq ‹_› ‹_› ‹_›
    · exact .forwardPresented hw ..
    · exact .forwardPresented hw ..

theorem KeepsHolds.refuseWindowWrite (hw : NoneWaiting s p) (cls : AccessClass) (a : Access) :
    KeepsHolds x x s (refuseWindowWrite p cls a s) := by
  unfold Machine.refuseWindowWrite
  dsimp only
  split
  · exact (KeepsHolds.raiseDevice ..).trans (.refusePresented (hw.of_ports (by simp)) _)
  · exact .refusePresented hw _

theorem KeepsHolds.presentWindow (hw : NoneWaiting s p) (cls : AccessClass) (a : Access) :
    KeepsHolds x x s (presentWindow p cls a s) := by
  unfold Machine.presentWindow
  split
  · exact .forwardPresented hw ..
  · split
    · exact .refusePresented hw _
    · split
      · exact .forwardPresented hw ..
      · split
        · split
          · exact .forwardPresented hw ..
          · exact .refuseWindowWrite hw ..
        · exact .refuseWindowWrite hw ..

theorem KeepsHolds.presentNotice (hw : NoneWaiting s p) (cls : AccessClass) (a : Access) :
    KeepsHolds x x s (presentNotice p cls a s) := by
  unfold Machine.presentNotice
  split
  · exact .forwardPresented hw ..
  · split
    · split
      · split
        · exact .forwardPresented hw ..
        · exact .refusePresented hw _
      · exact .refusePresented hw _
    · exact .refusePresented hw _

theorem KeepsHolds.presentCrossing (hw : NoneWaiting s p) (a : Access) :
    KeepsHolds x x s (presentCrossing p a s) := by
  unfold Machine.presentCrossing
  split
  · exact .stallPresented hw _
  · split
    · exact .refuseWindowWrite hw ..
    · split
      · exact .forwardPresented hw ..
      · dsimp only
        split
        · exact .chargeForward hw ..
        · exact .chargeRefuse hw ..

theorem KeepsHolds.presentClassified (hw : NoneWaiting s p) (hq : oldestQueued s p = some e) (a : Access) :
    KeepsHolds none none s (presentClassified p a s) := by
  unfold Machine.presentClassified
  split
  · exact .forwardPresented hw ..
  · exact .presentData hw hq ..
  · exact .presentIndex hw ..
  · exact .presentIndex hw ..
  · exact .presentWindow hw ..
  · exact .presentWindow hw ..
  · exact .presentNotice hw ..
  · exact .presentNotice hw ..
  · exact .presentNotice hw ..
  · exact .presentCrossing hw _

theorem KeepsHolds.execPresentation (h : execPresentation p s = .next t) : KeepsHolds none none s t := by
  obtain rfl := Host.Outcome.next.inj h
  unfold present
  split
  · rename_i hm
    split
    · exact .refl s
    · split
      · exact .refusePresented (noneWaiting_of_mayPresent hm) _
      · exact .presentClassified (noneWaiting_of_mayPresent hm) ‹_› _
  · exact .refl s

end Sys2Proof.Machine
end

section
/-! SUPPORT. The reset lines (R176 to R179) and the time base (R67, R77) keep the order of answers and the held writes; so
every command does, and every step. -/

namespace Sys2Proof.Machine

variable {s t u : State} {x : Option RingId} {p : Port}

/-! ### RESET (R176) -/

/-- RESET empties the lists and the hold slots. -/
theorem Passes.execResetAssert (h : execResetAssert s = .next t) : Passes s t := by
  obtain rfl := Host.Outcome.next.inj h
  have horder : AnswersInOrder State.reset := by decide
  have hholds : HoldSound State.reset := by decide
  exact ⟨fun _ => horder, fun _ _ _ => (holdSound_iff.1 hholds).2.2⟩

theorem KeepsHolds.execResetRelease {ctlBase : BitVec 21} {mgmtSel : Port}
    (h : execResetRelease ctlBase mgmtSel s = .next t) : KeepsHolds none none s t := by
  obtain rfl := Host.Outcome.next.inj h
  unfold releaseReset
  split
  · have hstrap : KeepsHolds none none s
        { s with resetLine := false, ctlBase := ctlBase, mgmt := mgmtSel, order := powerOnOrder } :=
      .of_same rfl (by simp [State.ring])
    exact hstrap.trans (.presentEngine _)
  · exact .refl s

/-! ### The assertion of a port reset line (R177, R178) -/

theorem KeepsHolds.setPortReset (level : Bool) : KeepsHolds x x s (setPortReset p level s) :=
  .of_same rfl (by simp [Machine.setPortReset, State.ring])

/-- The reset port is left with no request, no answer owed, and no held write (R83, R177). -/
theorem Passes.discardRequests : Passes s (discardRequests p s) := by
  have hself : (Machine.discardRequests p s).inFlight p = [] := by simp [Machine.discardRequests]
  have hother {q : Port} (hq : q ≠ p) : (Machine.discardRequests p s).inFlight q = s.inFlight q := by
    simp [Machine.discardRequests, State.inFlight_setInFlight_ne _ _ hq]
  refine ⟨fun hs => answersInOrder_iff.2 fun q => ?_, fun _ hs ⟨hone, hall⟩ => ⟨?_, fun q => ?_⟩⟩
  · rw [owedTo, awaited_discardRequests]
    by_cases hq : q = p
    · subst hq
      rw [hself, if_pos rfl]
      exact ⟨⟨by simp, by simp⟩, by simp, by simp, by simp, rfl⟩
    · rw [hother hq, if_neg hq]
      simpa [Machine.discardRequests, PerPort.get_set_ne _ _ hq, owedTo] using answersInOrder_iff.1 hs q
  · cases p <;> simp_all [OneHold, Machine.discardRequests, PerPort.set]
  · by_cases hq : q = p
    · subst hq
      rw [hself]
      simp [Machine.discardRequests]
    · rw [hother hq, Machine.discardRequests, State.setHold_holds, PerPort.get_set_ne _ _ hq]
      exact hall q

theorem KeepsHolds.faultTracking : KeepsHolds none none s (faultTracking s) := by
  have hfold (l : List RingId) (v : State) :
      KeepsHolds none none v (l.foldl (fun t r => Machine.faultEntry r .peerReset t) v) := by
    induction l generalizing v with
    | nil => exact .refl v
    | cons r l ih => exact (KeepsHolds.faultEntry ..).trans (ih _)
  have hcount : KeepsHolds none none s { s with freeCount := s.freeCount + 1 } := .of_same rfl (by simp [State.ring])
  exact hcount.trans (hfold ..)

/-- The flag changes no TRACKING ring (R19). -/
theorem KeepsHolds.flagPeerReset : KeepsHolds x x s (s.mapRings RingEntry.flagPeerReset) := by
  refine ⟨.of_ports rfl fun _ => rfl, fun _ _ hh => hh.mono rfl (fun _ => rfl) fun q hold _ _ hj => hj.congr ?_⟩
  obtain ⟨b, hb, -⟩ := id hj
  obtain ⟨head, tail, hph⟩ := (RingEntry.isTracking_iff hb).1 hj.isTracking
  rw [State.ring_mapRings, RingEntry.flagPeerReset_eq, hb]
  exact congrArg some (RingBody.flagPeerReset_of_not (by simp [hph]))

theorem KeepsHolds.resetUnit (p : Port) : KeepsHolds x x s (resetUnit p s) := by
  have hoff : KeepsHolds x x s (Machine.abandonJob p (Machine.unitOff p s)) :=
    (KeepsHolds.unitOff p).trans (.abandonJob p)
  unfold Machine.resetUnit
  dsimp only
  split
  · exact hoff
  · exact hoff.trans ((KeepsHolds.settleWait ..).trans (.settleWait ..))

theorem KeepsHolds.abandonSeeding : KeepsHolds x x s (abandonSeeding s) := by
  rcases abandonSeeding_cases s with ⟨h, -⟩ | ⟨r, b, rec, -, hb, hph, h⟩ <;> rw [h]
  · exact .refl s
  · exact (KeepsHolds.setRing_untracked (RingEntry.isTracking_eq_false hb (by simp [hph])) _).trans .unstallAll

theorem KeepsHolds.abandonUnitWait : KeepsHolds x x s (abandonUnitWait s) := by
  unfold Machine.abandonUnitWait
  split
  · exact (KeepsHolds.unitOff _).trans (.abandonJob _)
  · exact .setUnit _ _
  · exact .refl s

theorem KeepsHolds.reinitEngine : KeepsHolds x x s (reinitEngine s) :=
  .of_owed (by simp) Aside.reinitEngine.awaited

theorem Passes.execPortResetAssert (h : execPortResetAssert p s = .next t) : Passes s t := by
  obtain rfl := Host.Outcome.next.inj h
  unfold assertPortReset
  split
  · exact .refl s
  · split
    · exact (KeepsHolds.setPortReset true).passes
    · dsimp only
      have hline : KeepsHolds none none (Machine.discardRequests p s)
          (Machine.discardRequests p (Machine.setPortReset p true s)) := .setPortReset true
      have hall := (Passes.discardRequests.trans_keeps hline).trans_keeps
        (KeepsHolds.faultTracking.trans (KeepsHolds.flagPeerReset.trans
          ((KeepsHolds.raiseDevice (other p) .peerReset).trans
            ((KeepsHolds.clearPortNotices p).trans (.resetUnit p)))))
      split
      · exact hall.trans_keeps (KeepsHolds.abandonSeeding.trans (KeepsHolds.abandonUnitWait.trans .reinitEngine))
      · exact hall.trans_keeps .drainTestSeeding

theorem KeepsHolds.execPortResetDeassert (h : execPortResetDeassert p s = .next t) : KeepsHolds none none s t := by
  obtain rfl := Host.Outcome.next.inj h
  exact .setPortReset _

/-! ### The time base (R67, R77) -/

theorem KeepsHolds.expire (p : Port) : KeepsHolds x x s (expire p s) := by
  unfold Machine.expire
  split
  · exact .refl s
  · split
    · exact (KeepsHolds.refuseHeld p).trans ((KeepsHolds.countViolation ..).trans (.raiseRing ..))
    · exact .refl s

theorem KeepsHolds.stepTime : KeepsHolds x x s (stepTime s) := by
  have htick : KeepsHolds x x s (tick s) := .of_same rfl (by simp [tick, State.ring])
  unfold Machine.stepTime
  split
  · exact .refl s
  · exact htick.trans ((KeepsHolds.expire .a).trans (.expire .b))

theorem KeepsHolds.execTimeBaseStep (h : execTimeBaseStep s = .next t) : KeepsHolds none none s t := by
  obtain rfl := Host.Outcome.next.inj h
  exact .stepTime

theorem KeepsHolds.execHoldExpiry (h : execHoldExpiry p s = .next t) : KeepsHolds none none s t := by
  obtain rfl := Host.Outcome.next.inj h
  split
  · exact .stepTime
  · exact .refl s

/-! ### Every command and every step -/

theorem exec_passes {c : Instr} (h : exec c s = .next t) : Passes s t := by
  cases c with
  | resetAssert => exact .execResetAssert h
  | resetRelease => exact (KeepsHolds.execResetRelease h).passes
  | portResetAssert => exact .execPortResetAssert h
  | portResetDeassert => exact (KeepsHolds.execPortResetDeassert h).passes
  | acceptance => exact (KeepsHolds.execAcceptance h).passes
  | presentation => exact (KeepsHolds.execPresentation h).passes
  | grant => exact .execGrant h
  | memoryResponse => exact .execMemoryResponse h
  | discardedResponse => exact (KeepsHolds.execDiscardedResponse h).passes
  | responseDeparture => exact (KeepsHolds.execResponseDeparture h).passes
  | seedResponse => exact (KeepsHolds.execSeedResponse h).passes
  | fetchResponse => exact (KeepsHolds.execFetchResponse h).passes
  | reportBurstResponse => exact (KeepsHolds.execReportBurstResponse h).passes
  | reportTailResponse => exact (KeepsHolds.execReportTailResponse h).passes
  | initialisationBurstResponse status => exact (KeepsHolds.execInitialisationBurstResponse status h).passes
  | haltBurstResponse status => exact (KeepsHolds.execHaltBurstResponse status h).passes
  | restartStatusWriteResponse status => exact (KeepsHolds.execRestartStatusWriteResponse status h).passes
  | badCommand => exact (KeepsHolds.execBadCommand h).passes
  | defineRing => exact (KeepsHolds.execDefineRing h).passes
  | releaseRing => exact (KeepsHolds.execReleaseRing h).passes
  | armRing => exact (KeepsHolds.execArmRing h).passes
  | disarmRing => exact (KeepsHolds.execDisarmRing h).passes
  | clearFault => exact (KeepsHolds.execClearFault h).passes
  | setMarks => exact (KeepsHolds.execSetMarks h).passes
  | setGuard => exact (KeepsHolds.execSetGuard h).passes
  | setNotify => exact (KeepsHolds.execSetNotify h).passes
  | queryRing => exact (KeepsHolds.execQueryRing h).passes
  | resetCounts => exact (KeepsHolds.execResetCounts h).passes
  | setupNotice => exact (KeepsHolds.execSetupNotice h).passes
  | noticeOff => exact (KeepsHolds.execNoticeOff h).passes
  | resetTable => exact (KeepsHolds.execResetTable h).passes
  | setupJob => exact (KeepsHolds.execSetupJob h).passes
  | setupWriteResponse => exact (KeepsHolds.execSetupWriteResponse h).passes
  | recordTaking => exact (KeepsHolds.execRecordTaking h).passes
  | recordBurstResponse => exact (KeepsHolds.execRecordBurstResponse h).passes
  | noticeHeadWriteResponse => exact (KeepsHolds.execNoticeHeadWriteResponse h).passes
  | timeBaseStep => exact (KeepsHolds.execTimeBaseStep h).passes
  | holdExpiry => exact (KeepsHolds.execHoldExpiry h).passes

theorem step_passes (h : step s = .next t) : Passes s t := by
  rcases step_cases h with ⟨-, rfl⟩ | ⟨c, rest, -, hc⟩
  · exact .refl _
  · have hexec := exec_passes hc
    exact ⟨hexec.order, hexec.holds⟩

/-- Settles O57: every command keeps the answers in order and every held write justified (`exec_passes`), and the
tracking records that bound an applied head write's advance (`step_keeps`). -/
theorem stepKeepsHolds : Obligations.StepKeepsHolds := by
  intro s t hs h
  obtain ⟨horder, htracking, hholds⟩ := holdSound_iff.1 hs
  have hpass := step_passes h
  exact holdSound_iff.2
    ⟨hpass.order horder, (step_keeps h).tracking htracking, hpass.holds htracking horder hholds⟩

end Sys2Proof.Machine
end

section
/-! The time base (R67) and the expiry of held writes (R77): the step in plain numbers, which held writes reach their limit
at it, and the one step that both commands name (log entry 9). -/

namespace Sys2Proof.Machine

variable {s : State} {p : Port} {h : HoldSlot} {b : RingBody}

/-! ### The step in plain numbers -/

/-- A held write's elapsed time at the next step of the time base (R68, R77). -/
def elapsedNext (s : State) (h : HoldSlot) : Nat :=
  ((s.time.toNat + 1) % 4294967296 + 4294967296 - h.start.toNat) % 4294967296

theorem tick_eq (s : State) : tick s = { s with time := BitVec.ofNat 32 ((s.time.toNat + 1) % 4294967296) } := by
  have htime : s.time + 1 = BitVec.ofNat 32 ((s.time.toNat + 1) % 4294967296) := by
    apply BitVec.eq_of_toNat_eq
    simp
  rw [tick, htime]

theorem elapsed_tick (s : State) (h : HoldSlot) : elapsed (tick s) h = elapsedNext s h := by
  have := h.start.isLt
  have htime : (tick s).time.toNat = (s.time.toNat + 1) % 4294967296 := by
    simp [tick_eq]
  rw [elapsed, BitVec.toNat_sub, htime, elapsedNext]
  omega

/-! ### Expiry -/

/-- A write expires exactly when its elapsed time has reached its ring's hold limit (R77). -/
theorem hasExpired_iff : hasExpired s p = true ↔
    ∃ h b, s.holds.get p = some h ∧ (s.ring h.ring).body = some b ∧ b.desc.holdLimit ≤ elapsed s h := by
  unfold hasExpired
  rcases s.holds.get p with _ | h
  · simp
  · rcases hb : (s.ring h.ring).body with _ | b <;> simp [hb]

theorem hasExpired_tick_iff (hh : s.holds.get p = some h) (hb : (s.ring h.ring).body = some b) :
    hasExpired (tick s) p = true ↔ b.desc.holdLimit ≤ elapsedNext s h := by
  have htick : (tick s).holds.get p = some h := hh
  have hbody : ((tick s).ring h.ring).body = some b := hb
  rw [hasExpired_iff, ← elapsed_tick]
  simp [htick, hbody]

theorem expire_of_not (he : hasExpired s p = false) : expire p s = s := by
  unfold expire
  split
  · rfl
  · rw [he]
    rfl

theorem hasExpired_of_empty (hp : s.holds.get p = none) : hasExpired s p = false := by
  simp [hasExpired, hp]

/-- The expired write is refused, counted and told of (R77). -/
theorem expire_of_expired (he : hasExpired s p = true) (hh : s.holds.get p = some h) :
    expire p s = raiseRing h.ring .holdExpired (countViolation h.ring .holdExpired p h.first (refuseHeld p s)) := by
  simp only [expire, hh, he, if_true]

theorem expire_holds_other (p : Port) (s : State) : (expire p s).holds.get (other p) = s.holds.get (other p) := by
  unfold expire
  split
  · rfl
  · split
    · simp [refuseHeld, changeEntry]
    · rfl

/-- No write expires at a step, and only the count moves. -/
theorem stepTime_of_none (hr : s.resetLine = false) (he : ∀ p, hasExpired (tick s) p = false) :
    stepTime s = tick s := by
  simp only [stepTime, hr, Bool.false_eq_true, if_false]
  rw [expire_of_not (he .a), expire_of_not (he .b)]

/-- With one port holding, the step is that of its write alone (R69). -/
theorem stepTime_of_one (hr : s.resetLine = false) (ho : s.holds.get (other p) = none) :
    stepTime s = expire p (tick s) := by
  simp only [stepTime, hr, Bool.false_eq_true, if_false]
  have hother : hasExpired (tick s) (other p) = false := hasExpired_of_empty ho
  cases p
  · exact expire_of_not (hasExpired_of_empty ((expire_holds_other .a (tick s)).trans ho))
  · exact congrArg (expire .b) (expire_of_not hother)

/-- HOLD_EXPIRY is the step of the time base at which its port's write expires, and nothing else. -/
theorem execHoldExpiry_eq (p : Port) (s : State) :
    exec (.holdExpiry p) s = .next (if hasExpired (tick s) p then stepTime s else s) := rfl

theorem execTimeBaseStep_eq (s : State) : exec .timeBaseStep s = .next (stepTime s) := rfl

/-! ### The time base and the port reset lines (R67) -/

theorem assertPortReset_time (p : Port) (s : State) : (assertPortReset p s).time = s.time := by
  by_cases hp : s.portReset.get p = true
  · simp only [assertPortReset, hp, if_true]
  · by_cases hr : s.resetLine = true
    · simp only [assertPortReset, hp, hr, if_true]
      rfl
    · have h := execPortResetAssert_eq (p := p) (Bool.not_eq_true _ ▸ hp) (Bool.not_eq_true _ ▸ hr)
      rw [Host.Outcome.next.inj h]
      exact (portResetEnd_aside p s).time

/-- Settles O50: the count in plain numbers (`tick_eq`), no write at its limit (`stepTime_of_none`), one write that
expires (`stepTime_of_one`, `expire_of_expired`), and the port reset lines (`assertPortReset_time`). -/
theorem timeBaseSteps : Obligations.TimeBaseSteps := by
  refine ⟨fun s hl => ⟨?_, fun hreset => (congrArg State.time (hreset hl)).symm⟩, fun s hr hbelow => ?_, ?_,
    fun s t p ht => ?_⟩
  · simp only [execTimeBaseStep_eq, stepTime, hl, if_true]
  · have hnone (p : Port) : hasExpired (tick s) p = false := by
      rw [← Bool.not_eq_true, hasExpired_iff]
      rintro ⟨h, b, hh, hb, hle⟩
      rw [elapsed_tick] at hle
      exact (hbelow p h b hh hb).not_ge hle
    rw [execTimeBaseStep_eq, stepTime_of_none hr hnone, tick_eq]
    exact ⟨rfl, fun p => by rw [execHoldExpiry_eq, hnone p]; rfl⟩
  · intro s p h b before after e hr hh ho hb hlimit hl he hbefore ticked t
    have hexp : hasExpired (tick s) p = true := (hasExpired_tick_iff hh hb).2 hlimit
    have hstep : stepTime s = t := by
      have hcut : refuseHeld p (tick s) = ((tick s).setHold p none).setInFlight p (before ++ e.refuse :: after) :=
        refuseHeld_cut hl hbefore he
      rw [stepTime_of_one hr ho, expire_of_expired hexp hh, hcut, tick_eq, countViolation_eq, InFlight.refuse_eq]
      rfl
    rw [execHoldExpiry_eq, execTimeBaseStep_eq, hexp, if_pos rfl, hstep]
    exact ⟨rfl, rfl⟩
  · rcases ht with ht | ht <;> rw [← Host.Outcome.next.inj ht]
    · exact assertPortReset_time p s
    · rfl

end Sys2Proof.Machine
end

section
/-! The STATUS and FAULT views (R85, R154, R155, R181, R186): the bits of their words, field by field, and the fields of an
entry in its every state. -/

namespace Sys2Proof.Machine

/-! ### The bits of the views' words (R186) -/

section
variable (kind : BitVec 4) (pend : BitVec 6) (port seen holder held low high track notify writeback recovery : BitVec 1)
  (guard : BitVec 2) (state : BitVec 3)

/-- Word 2 of the STATUS view of its fields. -/
def statusWord : BitVec (4 + 4 + 2 + 6 + 1 + 1 + 1 + 1 + 1 + 1 + 1 + 1 + 1 + 1 + 1 + 2 + 3) :=
  0#4 ++ kind ++ 0#2 ++ pend ++ 0#1 ++ port ++ seen ++ holder ++ held ++ low ++ high ++ track ++ notify ++ writeback ++
    recovery ++ guard ++ state

/-- The codes and sets of word 2 of the STATUS view. -/
theorem statusWord_fields :
    let v := statusWord kind pend port seen holder held low high track notify writeback recovery guard state
    v.extractLsb' 0 3 = state ∧ v.extractLsb' 3 2 = guard ∧ v.extractLsb' 5 1 = recovery ∧
      v.extractLsb' 7 1 = notify ∧ v.extractLsb' 12 1 = holder ∧ v.extractLsb' 14 1 = port ∧
      v.extractLsb' 16 6 = pend ∧ v.extractLsb' 22 2 = 0 ∧ v.extractLsb' 24 4 = kind ∧ v.extractLsb' 28 4 = 0 := by
  simp (disch := decide) only [statusWord, BitVec.extractLsb'_append_eq_of_le,
    BitVec.extractLsb'_append_eq_of_add_le, Nat.reduceSub, BitVec.extractLsb'_eq_self, -Nat.reduceAdd]
  decide

/-- The flags of word 2 of the STATUS view. -/
theorem statusWord_flags :
    let v := statusWord kind pend port seen holder held low high track notify writeback recovery guard state
    v.getLsbD 6 = writeback.getLsbD 0 ∧ v.getLsbD 8 = track.getLsbD 0 ∧ v.getLsbD 9 = high.getLsbD 0 ∧
      v.getLsbD 10 = low.getLsbD 0 ∧ v.getLsbD 11 = held.getLsbD 0 ∧ v.getLsbD 12 = holder.getLsbD 0 ∧
      v.getLsbD 13 = seen.getLsbD 0 ∧ v.getLsbD 14 = port.getLsbD 0 ∧ v.getLsbD 15 = false := by
  simp only [statusWord, BitVec.getLsbD_append, -Nat.reduceAdd]
  simp

/-- Bits 10 to 3 of word 2 of the STATUS view. -/
theorem statusWord_descriptor :
    (statusWord kind pend port seen holder held low high track notify writeback recovery guard state).extractLsb' 3 8 =
      low ++ high ++ track ++ notify ++ writeback ++ recovery ++ guard := by
  refine BitVec.eq_of_getLsbD_eq fun i hi => ?_
  simp only [statusWord, BitVec.getLsbD_extractLsb', BitVec.getLsbD_append, -Nat.reduceAdd]
  interval_cases i <;> simp

end

section
variable (count : BitVec 16) (seen port : BitVec 1) (kind faultKind : BitVec 4) (faultPort : BitVec 1)
  (cause : BitVec 2) (state : BitVec 3)

/-- Word 2 of the FAULT view of its fields. -/
def faultWord : BitVec (16 + 1 + 1 + 4 + 4 + 1 + 2 + 3) :=
  count ++ seen ++ port ++ kind ++ faultKind ++ faultPort ++ cause ++ state

/-- The codes and the count of word 2 of the FAULT view. -/
theorem faultWord_fields :
    let v := faultWord count seen port kind faultKind faultPort cause state
    v.extractLsb' 0 3 = state ∧ v.extractLsb' 3 2 = cause ∧ v.extractLsb' 5 1 = faultPort ∧
      v.extractLsb' 6 4 = faultKind ∧ v.extractLsb' 10 4 = kind ∧ v.extractLsb' 14 1 = port ∧
      v.extractLsb' 16 16 = count ∧ v.getLsbD 15 = seen.getLsbD 0 := by
  simp (disch := decide) only [faultWord, BitVec.extractLsb'_append_eq_of_le,
    BitVec.extractLsb'_append_eq_of_add_le, Nat.reduceSub, BitVec.extractLsb'_eq_self, BitVec.getLsbD_append,
    -Nat.reduceAdd]
  simp

/-- The fault's fields of word 2 of the FAULT view together, and the last violation's. -/
theorem faultWord_spans :
    let v := faultWord count seen port kind faultKind faultPort cause state
    v.extractLsb' 5 5 = faultKind ++ faultPort ∧ v.extractLsb' 3 7 = faultKind ++ faultPort ++ cause ∧
      v.extractLsb' 10 5 = port ++ kind := by
  refine ⟨BitVec.eq_of_getLsbD_eq fun i hi => ?_, BitVec.eq_of_getLsbD_eq fun i hi => ?_,
    BitVec.eq_of_getLsbD_eq fun i hi => ?_⟩ <;>
    simp only [faultWord, BitVec.getLsbD_extractLsb', BitVec.getLsbD_append, -Nat.reduceAdd] <;>
    interval_cases i <;> simp

end

/-- The halves of a word. -/
theorem append_halves (x y : BitVec 16) :
    (x ++ y).extractLsb' 0 16 = y ∧ (x ++ y).extractLsb' 16 16 = x := by
  simp (disch := decide) only [BitVec.extractLsb'_append_eq_of_le, BitVec.extractLsb'_append_eq_of_add_le,
    Nat.reduceSub, BitVec.extractLsb'_eq_self, -Nat.reduceAdd, and_self]

theorem append_halves_toNat (x y : BitVec 16) : (x ++ y).toNat = y.toNat + 65536 * x.toNat := by
  have := y.isLt
  rw [BitVec.toNat_append, Nat.shiftLeft_eq, Nat.mul_comm, ← Nat.two_pow_add_eq_or_of_lt y.isLt]
  omega

/-! ### The fields of an entry -/

theorem flagBit_getLsbD (b : Bool) : (flagBit b).getLsbD 0 = b := by cases b <;> rfl

@[simp] theorem RingEntry.stateCode_toNat (e : RingEntry) : e.stateCode.toNat = stateNumber e := by
  rcases hb : e.body with _ | ⟨_, _, _, ph⟩
  · simp [RingEntry.stateCode, RingEntry.phase?, stateNumber, hb]
  · cases ph <;> simp [RingEntry.stateCode, RingEntry.phase?, stateNumber, hb]

theorem RingEntry.isSome_tracking? (e : RingEntry) : e.tracking?.isSome = e.isTracking := by
  unfold RingEntry.tracking? RingEntry.isTracking
  split <;> simp_all

theorem RingEntry.phase?_of_body {e : RingEntry} {b : RingBody} (hb : e.body = some b) : e.phase? = some b.phase := by
  simp [RingEntry.phase?, hb]

theorem RingEntry.tracking?_eq_some {e : RingEntry} {b : RingBody} {head tail : Index} (hb : e.body = some b)
    (hp : b.phase = .tracking head tail) : e.tracking? = some (head, tail) := by
  simp [RingEntry.tracking?, RingEntry.phase?_of_body hb, hp]

theorem RingEntry.tracking?_eq_none {e : RingEntry} (he : e.isTracking = false) : e.tracking? = none := by
  rw [← Option.not_isSome_iff_eq_none, RingEntry.isSome_tracking?, he]
  exact Bool.false_ne_true

theorem RingEntry.fault?_eq_some {e : RingEntry} {b : RingBody} {f : FaultRecord} {oh ot : Option Index}
    (hb : e.body = some b) (hp : b.phase = .faulted f oh ot) : e.fault? = some f := by
  simp [RingEntry.fault?, RingEntry.phase?_of_body hb, hp]

theorem RingEntry.fault?_eq_none {e : RingEntry} (he : stateNumber e ≠ 4) : e.fault? = none := by
  rcases hb : e.body with _ | b
  · simp [RingEntry.fault?, RingEntry.phase?, hb]
  · cases hp : b.phase
    case faulted => simp [stateNumber, hb, hp] at he
    all_goals simp [RingEntry.fault?, RingEntry.phase?_of_body hb, hp]

/-- An absent body's fields are zero (R181). -/
theorem fields_of_free {e : RingEntry} (hb : e.body = none) :
    guardField e = 0 ∧ recoveryField e = 0 ∧ writebackField e = 0 ∧ notifyField e = 0 ∧ pendingField e = 0 ∧
      e.tracking? = none ∧ highMark? e = none ∧ lowMark? e = none := by
  simp [guardField, recoveryField, writebackField, notifyField, pendingField, RingEntry.tracking?, RingEntry.phase?,
    highMark?, lowMark?, hb]

/-- An absent last violation's fields are zero (R181). -/
theorem fields_of_no_last {e : RingEntry} (hl : e.last = none) :
    lastKindField e = 0 ∧ lastPortField e = 0 ∧ lastAddressField e = 0 := by
  simp [lastKindField, lastPortField, lastAddressField, hl]

theorem append_index_halves (head tail : Index) :
    (tail ++ head : BitVec 32) = BitVec.ofNat 32 (head.toNat + 65536 * tail.toNat) := by
  apply BitVec.eq_of_toNat_eq
  have := head.isLt
  have := tail.isLt
  rw [BitVec.toNat_ofNat, Nat.mod_eq_of_lt (by omega)]
  exact append_halves_toNat tail head

/-! ### The STATUS view (R154) -/

section
variable {s : State} {r : RingId} {p : Port} {h : HoldSlot}

theorem statusView_w2 (s : State) (r : RingId) :
    (statusView s r).w2 =
      let e := s.ring r
      statusWord (lastKindField e) (pendingField e) (lastPortField e) (flagBit e.last.isSome) (holdingPortField s r)
        (heldField s r) (flagBit (lowMark? e).isSome) (flagBit (highMark? e).isSome) (flagBit e.tracking?.isSome)
        (notifyField e) (writebackField e) (recoveryField e) (guardField e) e.stateCode := rfl

/-- The codes and sets of word 2. -/
theorem statusView_codes (s : State) (r : RingId) :
    let e := s.ring r
    let w := (statusView s r).w2
    w.extractLsb' 0 3 = e.stateCode ∧ w.extractLsb' 3 2 = guardField e ∧ w.extractLsb' 5 1 = recoveryField e ∧
      w.extractLsb' 7 1 = notifyField e ∧ w.extractLsb' 12 1 = holdingPortField s r ∧
      w.extractLsb' 14 1 = lastPortField e ∧ w.extractLsb' 16 6 = pendingField e ∧ w.extractLsb' 22 2 = 0 ∧
      w.extractLsb' 24 4 = lastKindField e ∧ w.extractLsb' 28 4 = 0 := statusWord_fields ..

/-- The flags of word 2. -/
theorem statusView_flags (s : State) (r : RingId) :
    let e := s.ring r
    let w := (statusView s r).w2
    w.getLsbD 6 = (writebackField e).getLsbD 0 ∧ w.getLsbD 8 = e.isTracking ∧ w.getLsbD 9 = (highMark? e).isSome ∧
      w.getLsbD 10 = (lowMark? e).isSome ∧ w.getLsbD 11 = (heldOn s r).isSome ∧
      w.getLsbD 12 = (holdingPortField s r).getLsbD 0 ∧ w.getLsbD 13 = e.last.isSome ∧
      w.getLsbD 14 = (lastPortField e).getLsbD 0 ∧ w.getLsbD 15 = false := by
  obtain ⟨hwriteback, htrack, hhigh, hlow, hheld, hholder, hseen, hport, hclear⟩ :=
    statusWord_flags (lastKindField (s.ring r)) (pendingField (s.ring r)) (lastPortField (s.ring r))
      (flagBit (s.ring r).last.isSome) (holdingPortField s r) (heldField s r) (flagBit (lowMark? (s.ring r)).isSome)
      (flagBit (highMark? (s.ring r)).isSome) (flagBit (s.ring r).tracking?.isSome) (notifyField (s.ring r))
      (writebackField (s.ring r)) (recoveryField (s.ring r)) (guardField (s.ring r)) (s.ring r).stateCode
  exact ⟨hwriteback, htrack.trans ((flagBit_getLsbD _).trans (s.ring r).isSome_tracking?),
    hhigh.trans (flagBit_getLsbD _), hlow.trans (flagBit_getLsbD _), hheld.trans (flagBit_getLsbD _), hholder,
    hseen.trans (flagBit_getLsbD _), hport, hclear⟩

/-- The mark words. -/
theorem statusView_marks (s : State) (r : RingId) :
    (statusView s r).w5.extractLsb' 0 16 = BitVec.ofNat 16 ((highMark? (s.ring r)).getD 0) ∧
      (statusView s r).w5.extractLsb' 16 16 = BitVec.ofNat 16 ((lowMark? (s.ring r)).getD 0) := append_halves ..

/-- The fill and the violation count. -/
theorem statusView_fill (s : State) (r : RingId) :
    (statusView s r).w4.extractLsb' 0 16 = fillField (s.ring r) ∧
      (statusView s r).w4.extractLsb' 16 16 = (s.ring r).count := append_halves ..

/-- A body's fields of the STATUS view. -/
theorem statusView_body {b : RingBody} (hb : (s.ring r).body = some b) :
    let v := statusView s r
    (v.w2.extractLsb' 3 2).toNat = guardNumber b.desc.guardMode ∧
      (v.w2.extractLsb' 5 1).toNat = recoveryNumber b.desc.recovery ∧
      v.w2.getLsbD 6 = b.desc.writeback ∧ (v.w2.extractLsb' 7 1).toNat = portNumber b.desc.notify ∧
      v.w2.getLsbD 9 = b.highMark.isSome ∧ v.w2.getLsbD 10 = b.lowMark.isSome ∧
      v.w2.extractLsb' 16 6 = (s.ring r).pend.get b.desc.notify ∧
      v.w5.extractLsb' 0 16 = BitVec.ofNat 16 (b.highMark.getD 0) ∧
      v.w5.extractLsb' 16 16 = BitVec.ofNat 16 (b.lowMark.getD 0) := by
  obtain ⟨-, hguard, hrecovery, hnotify, -, -, hpend, -⟩ := statusView_codes s r
  obtain ⟨hwriteback, -, hhigh, hlow, -⟩ := statusView_flags s r
  obtain ⟨hhighMark, hlowMark⟩ := statusView_marks s r
  refine ⟨?_, ?_, hwriteback.trans ?_, ?_, hhigh.trans ?_, hlow.trans ?_, ?_, ?_, ?_⟩
  · simp [hguard, guardField, hb]
  · simp [hrecovery, recoveryField, hb]
  · rw [writebackField, hb]
    exact flagBit_getLsbD _
  · simp [hnotify, notifyField, hb]
  · simp [highMark?, hb]
  · simp [lowMark?, hb]
  · simp [hpend, pendingField, hb]
  · simp [hhighMark, highMark?, hb]
  · simp [hlowMark, lowMark?, hb]

/-- A FREE ring's fields of the STATUS view. -/
theorem statusView_free (hb : (s.ring r).body = none) :
    let v := statusView s r
    v.w2.extractLsb' 3 8 = 0 ∧ v.w2.extractLsb' 16 6 = 0 ∧ v.w5 = 0 := by
  obtain ⟨hguard, hrecovery, hwriteback, hnotify, hpend, htrack, hhigh, hlow⟩ := fields_of_free hb
  obtain ⟨-, -, -, -, -, -, hset, -⟩ := statusView_codes s r
  refine ⟨?_, hset.trans hpend, ?_⟩
  · rw [statusView_w2]
    refine (statusWord_descriptor ..).trans ?_
    rw [hguard, hrecovery, hwriteback, hnotify, htrack, hhigh, hlow]
    rfl
  · simp only [statusView, hhigh, hlow]
    rfl

/-- The tracking record's fields of the STATUS view. -/
theorem statusView_tracking {head tail : Index} (ht : (s.ring r).tracking? = some (head, tail)) :
    (statusView s r).w3 = BitVec.ofNat 32 (head.toNat + 65536 * tail.toNat) ∧
      (statusView s r).w4.extractLsb' 0 16 = BitVec.ofNat 16 (ahead head.toNat tail.toNat) := by
  refine ⟨?_, (statusView_fill s r).1.trans ?_⟩
  · rw [← append_index_halves]
    simp [statusView, headField, tailField, ht]
  · simp [fillField, ht, distance_eq_ahead]

/-- No tracking record: its fields are zero (R181). -/
theorem statusView_not_tracking (ht : (s.ring r).tracking? = none) :
    (statusView s r).w3 = 0 ∧ (statusView s r).w4.extractLsb' 0 16 = 0 := by
  refine ⟨?_, (statusView_fill s r).1.trans ?_⟩
  · simp only [statusView, headField, tailField, ht]
    rfl
  · simp [fillField, ht]

/-- The held write's fields of the STATUS view. -/
theorem statusView_held (hh : heldOn s r = some (p, h)) :
    ((statusView s r).w2.extractLsb' 12 1).toNat = portNumber p ∧
      (statusView s r).w6.toNat = (s.time - h.start).toNat % 65536 := by
  obtain ⟨-, -, -, -, hholder, -⟩ := statusView_codes s r
  have helapsed : elapsedField s r = (s.time - h.start).setWidth 16 := by
    simp [elapsedField, hh]
  refine ⟨by simp [hholder, holdingPortField, hh], (append_halves_toNat 0#16 (elapsedField s r)).trans ?_⟩
  rw [helapsed, BitVec.toNat_setWidth]
  rfl

/-- No held write: its fields are zero (R181). -/
theorem statusView_not_held (hh : heldOn s r = none) :
    (statusView s r).w2.getLsbD 12 = false ∧ (statusView s r).w6 = 0 := by
  obtain ⟨-, -, -, -, -, hholder, -⟩ := statusView_flags s r
  have helapsed : elapsedField s r = 0 := by
    simp [elapsedField, hh]
  refine ⟨hholder.trans (by simp [holdingPortField, hh]), ?_⟩
  simp only [statusView, helapsed]
  rfl

/-- The last violation's fields of the STATUS view. -/
theorem statusView_last {l : LastViolation} (hl : (s.ring r).last = some l) :
    ((statusView s r).w2.extractLsb' 14 1).toNat = portNumber l.port ∧
      ((statusView s r).w2.extractLsb' 24 4).toNat = violationNumber l.kind ∧ (statusView s r).w7 = l.address := by
  obtain ⟨-, -, -, -, -, hport, -, -, hkind, -⟩ := statusView_codes s r
  exact ⟨by simp [hport, lastPortField, hl], by simp [hkind, lastKindField, hl],
    by simp [statusView, lastAddressField, hl]⟩

/-- No last violation: its fields are zero (R181). -/
theorem statusView_no_last (hl : (s.ring r).last = none) :
    (statusView s r).w2.getLsbD 14 = false ∧ (statusView s r).w2.extractLsb' 24 4 = 0 ∧ (statusView s r).w7 = 0 := by
  obtain ⟨hnoKind, hnoPort, hnoAddress⟩ := fields_of_no_last hl
  obtain ⟨-, -, -, -, -, -, -, -, hkind, -⟩ := statusView_codes s r
  obtain ⟨-, -, -, -, -, -, -, hport, -⟩ := statusView_flags s r
  exact ⟨hport.trans (by simp [hnoPort]), hkind.trans hnoKind, hnoAddress⟩

end

/-! ### The FAULT view (R155) -/

section
variable {s : State} {r : RingId}

/-- The fault's violation kind as written: zero when absent (R7, R181). -/
def faultViolationField (e : RingEntry) : BitVec 4 := (e.fault?.map fun f => f.cause.kindField).getD 0

/-- The fault's port as written: zero when absent (R7, R181). -/
def faultPortField (e : RingEntry) : BitVec 1 := (e.fault?.map fun f => f.cause.portField).getD 0

/-- The codes and the count of word 2. -/
theorem faultView_codes (s : State) (r : RingId) :
    let e := s.ring r
    let w := (faultView s r).w2
    w.extractLsb' 0 3 = e.stateCode ∧ w.extractLsb' 3 2 = faultKindField e ∧ w.extractLsb' 5 1 = faultPortField e ∧
      w.extractLsb' 6 4 = faultViolationField e ∧ w.extractLsb' 10 4 = lastKindField e ∧
      w.extractLsb' 14 1 = lastPortField e ∧ w.extractLsb' 16 16 = e.count ∧ w.getLsbD 15 = e.last.isSome := by
  obtain ⟨hstate, hcause, hport, hkind, hlastKind, hlastPort, hcount, hseen⟩ :=
    faultWord_fields (s.ring r).count (flagBit (s.ring r).last.isSome) (lastPortField (s.ring r))
      (lastKindField (s.ring r)) (faultViolationField (s.ring r)) (faultPortField (s.ring r))
      (faultKindField (s.ring r)) (s.ring r).stateCode
  exact ⟨hstate, hcause, hport, hkind, hlastKind, hlastPort, hcount, hseen.trans (flagBit_getLsbD _)⟩

/-- The fault's fields of word 2 together, and the last violation's. -/
theorem faultView_spans (s : State) (r : RingId) :
    let e := s.ring r
    let w := (faultView s r).w2
    w.extractLsb' 5 5 = faultViolationField e ++ faultPortField e ∧
      w.extractLsb' 3 7 = faultViolationField e ++ faultPortField e ++ faultKindField e ∧
      w.extractLsb' 10 5 = lastPortField e ++ lastKindField e := faultWord_spans ..

/-- The fault record's fields of the FAULT view (R7, R155). -/
theorem faultView_fault {f : FaultRecord} (hf : (s.ring r).fault? = some f) :
    let v := faultView s r
    (v.w2.extractLsb' 3 2).toNat = faultNumber f.cause ∧ v.w2.extractLsb' 5 1 = f.cause.portField ∧
      v.w2.extractLsb' 6 4 = f.cause.kindField ∧ v.w2.extractLsb' 5 5 = f.cause.kindField ++ f.cause.portField ∧
      v.w3 = f.cause.addressField ∧ v.w4 = f.cause.writtenField ∧ v.w5 = f.time := by
  obtain ⟨-, hcause, hport, hkind, -⟩ := faultView_codes s r
  obtain ⟨hboth, -⟩ := faultView_spans s r
  have hviolation : faultViolationField (s.ring r) = f.cause.kindField := by simp [faultViolationField, hf]
  have hfaultPort : faultPortField (s.ring r) = f.cause.portField := by simp [faultPortField, hf]
  rw [hviolation, hfaultPort] at hboth
  refine ⟨by simp [hcause, faultKindField, hf], hport.trans hfaultPort, hkind.trans hviolation, hboth, ?_, ?_, ?_⟩
  all_goals simp [faultView, hf]

/-- No fault record: its fields are zero (R181). -/
theorem faultView_no_fault (hf : (s.ring r).fault? = none) :
    let v := faultView s r
    v.w2.extractLsb' 3 7 = 0 ∧ v.w3 = 0 ∧ v.w4 = 0 ∧ v.w5 = 0 := by
  obtain ⟨-, hspan, -⟩ := faultView_spans s r
  refine ⟨hspan.trans ?_, ?_, ?_, ?_⟩
  · simp only [faultViolationField, faultPortField, faultKindField, hf]
    rfl
  all_goals simp [faultView, hf]

/-- The last violation's fields of the FAULT view. -/
theorem faultView_last {l : LastViolation} (hl : (s.ring r).last = some l) :
    let v := faultView s r
    (v.w2.extractLsb' 14 1).toNat = portNumber l.port ∧ (v.w2.extractLsb' 10 4).toNat = violationNumber l.kind ∧
      v.w6 = l.address ∧ v.w7 = l.time := by
  obtain ⟨-, -, -, -, hkind, hport, -⟩ := faultView_codes s r
  exact ⟨by simp [hport, lastPortField, hl], by simp [hkind, lastKindField, hl],
    by simp [faultView, lastAddressField, hl], by simp [faultView, hl]⟩

/-- No last violation: its fields are zero (R181). -/
theorem faultView_no_last (hl : (s.ring r).last = none) :
    let v := faultView s r
    v.w2.extractLsb' 10 5 = 0 ∧ v.w6 = 0 ∧ v.w7 = 0 := by
  obtain ⟨hkind, hport, haddress⟩ := fields_of_no_last hl
  obtain ⟨-, -, hspan⟩ := faultView_spans s r
  rw [hport, hkind] at hspan
  exact ⟨hspan, haddress, by simp [faultView, hl]⟩

end

/-- Settles O41: word 2 of each view is its fields side by side (`statusView_codes`, `statusView_flags`,
`faultView_codes`), and each group of fields is the entry's when its record is present and zero when it is absent. -/
theorem viewLayouts : Obligations.ViewLayouts := by
  intro s r e
  obtain ⟨hstate, -, -, -, -, -, -, hzero, -, hzero'⟩ := statusView_codes s r
  obtain ⟨-, htrack, -, -, hheld, -, hseen, -, hclear⟩ := statusView_flags s r
  obtain ⟨hstate', -, -, -, -, -, hcount, hseen'⟩ := faultView_codes s r
  refine ⟨⟨hstate ▸ e.stateCode_toNat, fun b => statusView_body, statusView_free, htrack,
      fun b head tail hb hp => statusView_tracking (RingEntry.tracking?_eq_some hb hp),
      fun ht => statusView_not_tracking (RingEntry.tracking?_eq_none ht), (statusView_fill s r).2, hheld,
      fun p h => statusView_held, statusView_not_held, hseen, fun l => statusView_last, statusView_no_last, hclear,
      hzero, hzero'⟩,
    hstate' ▸ e.stateCode_toNat, fun b f oh ot hb hp => ?_,
    fun he => faultView_no_fault (RingEntry.fault?_eq_none he), hcount, hseen', fun l => faultView_last,
    faultView_no_last⟩
  obtain ⟨hcause, hport, hkind, hboth, haddress, hwritten, htime⟩ := faultView_fault (RingEntry.fault?_eq_some hb hp)
  refine ⟨hcause, htime, ?_⟩
  cases hc : f.cause <;> rw [hc] at hport hkind hboth haddress hwritten
  case index k p address written =>
    exact ⟨hport ▸ portBit_toNat p, hkind ▸ k.code_toNat, haddress, hwritten⟩
  case peerReset => exact ⟨hboth, haddress, hwritten⟩
  case memoryError p address => exact ⟨hport ▸ portBit_toNat p, hkind, haddress, hwritten⟩

end Sys2Proof.Machine
end

section
/-! SET_MARKS (R86, R88, R148) and SET_NOTIFY (R97, R98, R151): the parameters as numbers, and the report over the ring
each leaves. -/

namespace Sys2Proof.Machine

variable {s : State} {c : CurrentCommand} {r : RingId} {b : RingBody} {w : Params}

/-! ### SET_MARKS (R148) -/

/-- Settles O37: the marks are read as the parameters give them, or not at all (`parseMarks_eq`). -/
theorem setMarksResult : Obligations.SetMarksResult := by
  intro s c r b h hb hs
  obtain ⟨-, -, -, -, hallowed⟩ := allowed_of_stateNumber (s.ring r)
  rw [exec, execSetMarks, h.performing rfl, h.ringCommand (hallowed hs)]
  simp only [onBody, hb, parseMarks_eq]
  split_ifs with hok
  · exact congrArg Host.Outcome.next (h.finish _ .ok rfl rfl)
  · exact congrArg Host.Outcome.next (h.finish s .badField rfl rfl)

/-! ### SET_NOTIFY (R97, R98, R151) -/

theorem portNumber_le (p : Port) : portNumber p ≤ 1 := by cases p <;> decide

theorem parseNotify_eq_some {p : Port} {m : KindSet} :
    parseNotify w = some (p, m) ↔ w.w2.toNat = portNumber p ∧ w.w3.toNat = m.toNat := by
  simp only [parseNotify, Option.bind_eq_bind, Option.bind_eq_some_iff, portOfField_eq_some, maskOfField_eq_some,
    Option.pure_def, Option.some.injEq, Prod.mk.injEq]
  constructor
  · rintro ⟨p, hp, m, hm, rfl, rfl⟩
    exact ⟨hp, hm⟩
  · rintro ⟨hp, hm⟩
    exact ⟨p, hp, m, hm, rfl, rfl⟩

/-- An undefined value in either field is BAD_FIELD (R151). -/
theorem parseNotify_eq_none (h : ¬(w.w2.toNat ≤ 1 ∧ w.w3.toNat < 64)) : parseNotify w = none :=
  Option.eq_none_iff_forall_ne_some.2 fun ⟨p, m⟩ hp => by
    obtain ⟨hport, hmask⟩ := parseNotify_eq_some.1 hp
    exact h ⟨hport ▸ portNumber_le p, hmask ▸ m.isLt⟩

theorem PerPort.set_of_get {α : Type} {x : PerPort α} {p : Port} {v : α} (h : x.get p = v) : x.set p v = x := by
  rw [← h, PerPort.set_get]

/-- A ring's pending set for a port it does not tell is empty (R9). -/
theorem NoticesAgree.pend_eq_zero (h : NoticesAgree s) (hb : (s.ring r).body = some b) {p : Port}
    (hp : p ≠ b.desc.notify) : (s.ring r).pend.get p = 0 := by
  obtain ⟨-, -, -, htells⟩ := bothPorts_iff.1 h p
  by_contra hne
  obtain ⟨b', hb', rfl⟩ := htells r hne
  exact hp (by rw [Option.mem_unique hb' hb])

/-- The entry of a ring under notify port `p` and mask `m`, with pending sets `pend` (R151). -/
def notifyEntry (s : State) (r : RingId) (b : RingBody) (p : Port) (m : KindSet) (pend : PerPort KindSet) : RingEntry :=
  { s.ring r with
    body := some { b with desc := { b.desc with notify := p, mask := m } }
    pend := pend }

/-- Notify port and mask are stored and the ring's pending set for a port replaced. -/
theorem setPendingSet_setBody_notify (s : State) (r : RingId) (b : RingBody) (p q : Port) (m k : KindSet) :
    setPendingSet (.ring r) q k (s.setBody r { b with desc := { b.desc with notify := p, mask := m } }) =
      s.setRing r (notifyEntry s r b p m ((s.ring r).pend.set q k)) := by
  simp [setPendingSet, State.setBody, notifyEntry]

/-- A ring without kinds for a port joins the back of its queue (R93). -/
theorem raise_setRing_of_empty {e : RingEntry} {p : Port} (he : e.pend.get p = 0) (k : KindSet) :
    raise (.ring r) p k (s.setRing r e) =
      { s with
        rings := s.rings.set r { e with pend := e.pend.set p k }
        queues := s.queues.set p (s.queues.get p ++ [.ring r]) } := by
  have hor : (0 : KindSet) ||| k = k := BitVec.zero_or
  rw [raise_ring_eq, State.ring_setRing_self, he, if_pos rfl, hor, State.setRing_rings, State.rings_set_set]
  rfl

/-- The kinds the new mask keeps stay, move to the new port, or leave the ring without kinds (R97, R98). -/
theorem moveNotify_eq (h : NoticesAgree s) (hb : (s.ring r).body = some b) (p : Port) (m : KindSet) :
    let old := b.desc.notify
    let kept := (s.ring r).pend.get old &&& m
    moveNotify r b p m s =
      { s with
        rings := s.rings.set r (notifyEntry s r b p m (((s.ring r).pend.set old 0).set p kept))
        queues :=
          if kept = 0 then s.queues.set old ((s.queues.get old).filter (· != .ring r))
          else if p = old then s.queues
          else (s.queues.set old ((s.queues.get old).filter (· != .ring r))).set p (s.queues.get p ++ [.ring r]) } := by
  intro old kept
  have hempty (hp : p ≠ old) : ((s.ring r).pend.set old 0).get p = 0 :=
    (PerPort.get_set_ne _ _ hp).trans (h.pend_eq_zero hb hp)
  have hkept : pendingSet s (.ring r) old &&& m = kept := rfl
  rw [moveNotify, hkept]
  simp only [setPendingSet_setBody_notify]
  split_ifs with hk hp
  · have hpend : ((s.ring r).pend.set old 0).set p kept = (s.ring r).pend.set old 0 := by
      rw [hk]
      by_cases hp : p = old
      · rw [hp, PerPort.set_set]
      · exact PerPort.set_of_get (hempty hp)
    rw [hpend]
    rfl
  · rw [hp, PerPort.set_set]
    rfl
  · have hraise := raise_setRing_of_empty (s := dequeue (.ring r) old s) (r := r) (p := p)
      (e := notifyEntry s r b p m ((s.ring r).pend.set old 0)) (hempty hp) kept
    rw [get_queues_dequeue_ne _ _ hp] at hraise
    exact hraise

/-- Settles O39: the parameters are read or refused (`parseNotify_eq_some`, `parseNotify_eq_none`), and the pending set
is pruned and moved (`moveNotify_eq`). -/
theorem setNotifyResult : Obligations.SetNotifyResult := by
  intro s c r b h hb hs hagree
  obtain ⟨-, -, -, -, hallowed⟩ := allowed_of_stateNumber (s.ring r)
  rw [exec, execSetNotify, h.performing rfl, h.ringCommand (hallowed hs)]
  simp only [onBody, hb]
  refine ⟨fun hbad => ?_, fun p hp hm => ?_⟩
  · simp only [parseNotify_eq_none hbad]
    exact congrArg Host.Outcome.next (h.finish s .badField rfl rfl)
  · have hparse : parseNotify c.words.params = some (p, BitVec.ofNat 6 c.words.params.w3.toNat) :=
      parseNotify_eq_some.2 ⟨hp, by rw [BitVec.toNat_ofNat, Nat.mod_eq_of_lt hm]⟩
    simp only [hparse, moveNotify_eq hagree hb]
    exact congrArg Host.Outcome.next (h.finish _ .ok rfl rfl)

end Sys2Proof.Machine
end

section
/-! The control window (R91, R122, R123): what the checker does with reads and writes in it, by port and class. -/

namespace Sys2Proof.Machine

variable {s : State} {p : Port} {cls : AccessClass} {x : Access}

theorem presentClassified_of_window (hcls : classify s x = cls) (h : cls = .controlHeader ∨ cls = .commandSlot) :
    presentClassified p x s = presentWindow p cls x s := by
  rcases h with rfl | rfl <;> simp only [presentClassified, hcls]

/-- Reads are forwarded (R122). -/
theorem presentWindow_of_read (h : isWrite x = false) :
    presentWindow p cls x s = forwardPresented p cls none s := if_pos h

/-- The other port's writes are refused (R122). -/
theorem presentWindow_of_other (h : isWrite x = true) (hp : p ≠ s.mgmt) :
    presentWindow p cls x s = refusePresented p (some cls) s := by
  simp only [presentWindow, h, Bool.true_eq_false, if_false, if_pos hp]

/-- The managing port's slot writes are forwarded (R122). -/
theorem presentWindow_of_slot (h : isWrite x = true) (hp : p = s.mgmt) :
    presentWindow p .commandSlot x s = forwardPresented p .commandSlot none s := by
  simp [presentWindow, h, hp]

/-- A single-word write covers word 0 when it is addressed there (R121). -/
theorem coversWindowWord_zero_of_single {w : WriteWord} (h : x.transfer = .write [w]) :
    coversWindowWord s x 0 = true ↔ x.addr = windowBase s := by
  rw [coversWindowWord_zero, coveredWords, h, ← BitVec.toNat_inj]
  simp [Transfer.length, eq_comm]

/-- A command head write: a single word to word 0, of valid form and bounds (R123). -/
def IsHeadWrite (s : State) (x : Access) : Prop :=
  ∃ w, x.transfer = .write [w] ∧ x.addr = windowBase s ∧ headVerdict s w = true

theorem isWrite_of_isHeadWrite (h : IsHeadWrite s x) : isWrite x = true := by
  obtain ⟨w, hw, -⟩ := h
  simp only [isWrite, hw]

/-- The managing port's valid command head write is forwarded with its mark (R123). -/
theorem presentWindow_of_headWrite (hp : p = s.mgmt) (h : IsHeadWrite s x) :
    presentWindow p .controlHeader x s = forwardPresented p .controlHeader (some .commandHead) s := by
  have hx := isWrite_of_isHeadWrite h
  obtain ⟨w, hw, haddr, hv⟩ := h
  have hcovers := (coversWindowWord_zero_of_single (s := s) hw).2 haddr
  simp [presentWindow, hx, hp, singleWrite_of hw, hcovers, headWriteValid_eq_headVerdict, hv]

theorem transfer_of_singleWrite {w : WriteWord} (h : singleWrite x = some w) : x.transfer = .write [w] := by
  unfold singleWrite at h
  split at h
  · rename_i hx
    rw [hx, Option.some.inj h]
  · cases h

/-- Any other header write of the managing port is refused (R122, R123). -/
theorem presentWindow_of_not_headWrite (hx : isWrite x = true) (hp : p = s.mgmt) (h : ¬IsHeadWrite s x) :
    presentWindow p .controlHeader x s = refuseWindowWrite p .controlHeader x s := by
  rcases hw : singleWrite x with _ | w
  · simp [presentWindow, hx, hp, hw]
  · have htransfer := transfer_of_singleWrite hw
    have hno : (coversWindowWord s x 0 && headWriteValid s w) = false := by
      rw [← Bool.not_eq_true, Bool.and_eq_true, headWriteValid_eq_headVerdict]
      exact fun ⟨hc, hv⟩ => h ⟨w, htransfer, (coversWindowWord_zero_of_single htransfer).1 hc, hv⟩
    simp [presentWindow, hx, hp, hw, hno]

/-- Settles O13: each request's outcome, with the list it leaves; a refused header write raises HEAD_REFUSED when it
covers word 0 (`refuseWindowWrite_eq`). -/
theorem windowAccessChecked : Obligations.WindowAccessChecked := by
  intro s p before after e cls h hpast hcls hor
  rw [execPresentation_of_within h hpast, presentClassified_of_window hcls hor]
  refine ⟨fun hread => ?_, fun hx hp => ?_, fun hx hp hslot => ?_, fun w hw hp hhead haddr hv => ?_,
    fun hx hp hhead hno => ?_⟩
  · rw [presentWindow_of_read hread, forwardPresented_cut h rfl]
  · rw [presentWindow_of_other hx hp, refusePresented_cut h rfl]
  · rw [hslot, presentWindow_of_slot hx hp, forwardPresented_cut h rfl]
  · rw [hhead, presentWindow_of_headWrite hp ⟨w, hw, haddr, hv⟩, forwardPresented_cut h rfl]
  · have hnot : ¬IsHeadWrite s e.request.access := fun ⟨w, hw, haddr, hv⟩ => by simp [hno w hw haddr] at hv
    have hports (c : Prop) [Decidable c] :
        (if c then raise .device s.mgmt 0b000100#6 s else s).ports = s.ports := by split <;> simp
    rw [hhead, presentWindow_of_not_headWrite hx hp hnot, refuseWindowWrite_eq, refusePresented_cut h (hports _)]
    simp only [hp, hx, true_and]

end Sys2Proof.Machine
end

section
/-! The notice writer: the taking of a record (R95, R109, R110, R112), its failure and the return of its kinds (R96,
R108, R116). -/

namespace Sys2Proof.Machine

variable {s t : State} {p q : Port} {u : NoticeUnit} {src : Source} {rest : List Source} {rec : RecordInFlight}
  {k : KindSet}

/-! ### The taking of a record (R95, R109, R110, R112) -/

/-- A READY unit that is not closing has a record job when a source is queued and a slot is free (R109, R112). -/
theorem jobOf_of_ready (hu : s.units.get p = some u) (hph : u.phase = .ready none false)
    (hq : s.queues.get p = src :: rest) (hfree : ahead u.head.toNat u.tail.toNat < u.slotCount) :
    jobOf s p = some .record := by
  rw [← u.fill_eq_ahead] at hfree
  simp only [jobOf, hu, hph, hq, List.isEmpty_cons, hfree, and_self, if_true]

/-- A free requester serves a unit with a job when it is that unit's turn, or the other unit has none (R109). -/
theorem nextJob_of_turn {k : JobKind} (hfree : s.requester.job = none) (hk : jobOf s p = some k)
    (hturn : p ≠ s.requester.lastServed ∨ jobOf s (other p) = none) : nextJob s = some (p, k) := by
  simp only [nextJob, hfree]
  by_cases hp : p = s.requester.lastServed
  · have hother : jobOf s (other s.requester.lastServed) = none := hp ▸ hturn.resolve_left (not_not_intro hp)
    rw [hother, ← hp, hk, Option.map_some]
  · have hother : other s.requester.lastServed = p := (eq_other_of_ne hp).symm
    rw [hother, hk]

/-- The front source leaves the queue. -/
theorem filter_front (h : src ∉ rest) : (src :: rest).filter (· != src) = rest := by
  rw [List.filter_cons_of_neg (by simp)]
  exact List.filter_eq_self.2 fun x hx => by simpa using fun hxs : x = src => h (hxs ▸ hx)

/-- Settles O45: the unit's record job is next (`jobOf_of_ready`, `nextJob_of_turn`), and takes the front source
(`filter_front`). -/
theorem recordTaken : Obligations.RecordTaken := by
  intro s p u src rest hfree hu hph hq hnot hslot hturn kinds words slot
  have hjob := nextJob_of_turn hfree (jobOf_of_ready hu hph hq hslot) hturn
  have hqueue : dequeue src p (setPendingSet src p 0 s) = (setPendingSet src p 0 s).setQueue p rest := by
    rw [dequeue, setPendingSet_queues, hq, filter_front hnot]
  rw [exec, execRecordTaking, serveRecord, hjob]
  simp only [hu, hq, takeRecord, hqueue]
  cases src <;> rfl

/-! ### The return of a failed record's kinds (R96) -/

/-- Kinds return to a source: with its set and theirs together it goes to the front of the port's queue, unless both are
empty (R96). -/
def putBack (src : Source) (q : Port) (k : KindSet) (s : State) : State :=
  if pendingSet s src q ||| k = 0 then s
  else
    (setPendingSet src q (pendingSet s src q ||| k) s).setQueue q (src :: (s.queues.get q).filter (· != src))

section
variable {r : RingId} {b : RingBody} (s p)

/-- A DEVICE record's kinds return to the port it was taken for (R96). -/
theorem returnKinds_of_device (h : rec.source = .device) :
    returnKinds p rec s = putBack rec.source p rec.kinds s := by
  simp only [returnKinds, h, putBack, dequeue, setPendingSet_queues, State.setQueue, PerPort.get_set_self,
    PerPort.set_set]

/-- A ring's kinds, reduced to its mask, return to its notify port (R96). -/
theorem returnKinds_of_ring (h : rec.source = .ring r) (hc : rec.cleared = false) (hb : (s.ring r).body = some b) :
    returnKinds p rec s = putBack rec.source b.desc.notify (rec.kinds &&& b.desc.mask) s := by
  simp only [returnKinds, h, hc, hb, putBack, dequeue, setPendingSet_queues, State.setQueue, PerPort.get_set_self,
    PerPort.set_set, Bool.false_eq_true, if_false]

/-- A ring started afresh or cleared since the taking gets nothing back (R96, R99). -/
theorem returnKinds_of_cleared (h : rec.source = .ring r) (hc : rec.cleared = true ∨ (s.ring r).body = none) :
    returnKinds p rec s = s := by
  simp only [returnKinds, h]
  rcases hc with hc | hb
  · rw [if_pos hc]
  · simp only [hb, ite_self]

theorem returnKinds_cases (rec : RecordInFlight) :
    returnKinds p rec s = s ∨ ∃ q k, returnKinds p rec s = putBack rec.source q k s := by
  cases hsrc : rec.source with
  | device => exact .inr ⟨_, _, hsrc ▸ returnKinds_of_device s p hsrc⟩
  | ring r =>
    cases hc : rec.cleared with
    | true => exact .inl (returnKinds_of_cleared s p hsrc (.inl hc))
    | false =>
      rcases hb : (s.ring r).body with _ | b
      · exact .inl (returnKinds_of_cleared s p hsrc (.inr hb))
      · exact .inr ⟨_, _, hsrc ▸ returnKinds_of_ring s p hsrc hc hb⟩

end

/-- Returning kinds changes the pending sets and the queues alone. -/
theorem putBack_frame (src : Source) (q : Port) (k : KindSet) (s : State) : putBack src q k s =
    { s with
      rings := (putBack src q k s).rings
      device := (putBack src q k s).device
      queues := (putBack src q k s).queues } := by
  unfold putBack
  split
  · rfl
  · cases src <;> rfl

theorem returnKinds_frame (p : Port) (rec : RecordInFlight) (s : State) : returnKinds p rec s =
    { s with
      rings := (returnKinds p rec s).rings
      device := (returnKinds p rec s).device
      queues := (returnKinds p rec s).queues } := by
  rcases returnKinds_cases s p rec with h | ⟨q, k, h⟩ <;> rw [h]
  exact putBack_frame ..

theorem returnKinds_fields (p : Port) (rec : RecordInFlight) (s : State) :
    (returnKinds p rec s).outstanding = s.outstanding ∧ (returnKinds p rec s).time = s.time ∧
      (returnKinds p rec s).holds = s.holds ∧ (returnKinds p rec s).order = s.order ∧
      (returnKinds p rec s).memoryBus = s.memoryBus := by
  rw [returnKinds_frame]
  exact ⟨rfl, rfl, rfl, rfl, rfl⟩

/-- Each ring's body, count and last violation stay. -/
theorem returnKinds_ring (p : Port) (rec : RecordInFlight) (s : State) (r : RingId) :
    ((returnKinds p rec s).ring r).body = (s.ring r).body ∧ ((returnKinds p rec s).ring r).count = (s.ring r).count ∧
      ((returnKinds p rec s).ring r).last = (s.ring r).last := by
  rcases returnKinds_cases s p rec with h | ⟨q, k, h⟩ <;> rw [h]
  · exact ⟨rfl, rfl, rfl⟩
  · unfold putBack
    split <;> simp

/-- From `s` to `t` the kinds `k` have returned to source `src` toward port `q` (R96). -/
def Returned (s t : State) (src : Source) (q : Port) (k : KindSet) : Prop :=
  let merged := pendingSet s src q ||| k
  if merged = 0 then t.queues = s.queues ∧ t.rings = s.rings ∧ t.device = s.device
  else
    pendingSet t src q = merged ∧ t.queues = s.queues.set q (src :: (s.queues.get q).filter (· != src)) ∧
      ∀ src' q', (src', q') ≠ (src, q) → pendingSet t src' q' = pendingSet s src' q'

theorem returned_putBack (src : Source) (q : Port) (k : KindSet) (s : State) :
    Returned s (putBack src q k s) src q k := by
  by_cases h : pendingSet s src q ||| k = 0
  · simp [Returned, putBack, h]
  · simp only [Returned, putBack, h, if_false]
    exact ⟨by simp, by simp, fun src' q' hne => by simp [pendingSet_setPendingSet_ne _ _ hne]⟩

/-- The return of kinds does not meet the unit or the requester. -/
theorem putBack_setUnit_setJob (src : Source) (q : Port) (k : KindSet) (p : Port) (x : Option NoticeUnit)
    (j : Option NoticeJob) (s : State) :
    putBack src q k ((s.setUnit p x).setJob j) = ((putBack src q k s).setUnit p x).setJob j := by
  have hset : pendingSet ((s.setUnit p x).setJob j) src q = pendingSet s src q := by cases src <;> rfl
  unfold putBack
  rw [hset]
  split
  · rfl
  · cases src <;> rfl

theorem returnKinds_setUnit_setJob (p : Port) (rec : RecordInFlight) (x : Option NoticeUnit) (j : Option NoticeJob)
    (s : State) :
    returnKinds p rec ((s.setUnit p x).setJob j) = ((returnKinds p rec s).setUnit p x).setJob j := by
  cases hsrc : rec.source with
  | device => rw [returnKinds_of_device _ p hsrc, returnKinds_of_device _ p hsrc, putBack_setUnit_setJob]
  | ring r =>
    cases hc : rec.cleared with
    | true => rw [returnKinds_of_cleared _ p hsrc (.inl hc), returnKinds_of_cleared _ p hsrc (.inl hc)]
    | false =>
      have hring : ((s.setUnit p x).setJob j).ring r = s.ring r := rfl
      rcases hb : (s.ring r).body with _ | b
      · rw [returnKinds_of_cleared s p hsrc (.inr hb), returnKinds_of_cleared _ p hsrc (.inr (hring ▸ hb))]
      · rw [returnKinds_of_ring s p hsrc hc hb, returnKinds_of_ring _ p hsrc hc (hring ▸ hb), putBack_setUnit_setJob]

/-! ### The failure of a record (R108, R116) -/

/-- The write that fails, by the phase the record is in (R103, R116). -/
def failingWrite (u : NoticeUnit) (rec : RecordInFlight) : FailingWrite :=
  match rec.phase with
  | .burst => { address := u.base + BitVec.ofNat 32 (32 * rec.slot), which := .burst }
  | .head => { address := u.headAddr, which := .head }

theorem settled_congr (engine : t.engine = s.engine) (base : t.ctlBase = s.ctlBase) : settled t = settled s := by
  funext w status words
  simp only [settled, engine, reporting_congr engine base]

/-- What the failure of a record leaves (R116): its unit HALTED, or OFF with NOTICE_OFF settled when it is closing
(R108). -/
theorem failRecord_eq (p : Port) (u : NoticeUnit) (rec : RecordInFlight) (closing : Bool) (f : FailingWrite)
    (s : State) : failRecord p u rec closing f s =
      { returnKinds p rec s with
        units := s.units.set p (if closing then none else some { u with phase := .halted f })
        requester := { s.requester with job := none }
        ports := if closing then (unitOff p s).ports else s.ports
        engine := if closing then settled s (.noticeOff p) .ok (noticeOffResult (some f)) else s.engine } := by
  rw [failRecord, returnKinds_setUnit_setJob, returnKinds_frame]
  cases closing with
  | false => rfl
  | true =>
    simp only [if_true, settleWait_eq, unitOff, dropNoticeMarks, State.setUnit, State.setJob, PerPort.set_set]
    rw [settled_congr (s := s) rfl rfl]
    rfl

/-- The NOTICE_OFF result of a failing write (R186). -/
theorem noticeOffResult_some (f : FailingWrite) :
    noticeOffResult (some f) = ⟨(match f.which with | .burst => 1 | .head => 3), f.address, 0, 0, 0, 0⟩ := by
  rcases f with ⟨address, _ | _⟩ <;> simp [noticeOffResult, flagBit]

section
variable {closing : Bool} {rest : List OutEntry} (hu : s.units.get p = some u)
  (hph : u.phase = .ready (some rec) closing)
include hu hph

theorem execRecordBurstResponse_memErr
    (ho : s.outstanding = { origin := .notice p .recordBurst, discarded := false } :: rest) (hrec : rec.phase = .burst) :
    exec (.recordBurstResponse .memErr) s =
      .next (failRecord p u rec closing (failingWrite u rec) (s.setOutstanding rest)) := by
  rw [exec, execRecordBurstResponse, answered_of ho rfl]
  simp only [recordAnswered, State.setOutstanding_units, hu, hph, hrec, failingWrite, noticeSlotAddr]

theorem execNoticeHeadWriteResponse_memErr
    (ho : s.outstanding = { origin := .notice p .recordHead, discarded := false } :: rest) (hrec : rec.phase = .head) :
    exec (.noticeHeadWriteResponse .memErr) s =
      .next (failRecord p u rec closing (failingWrite u rec) (s.setOutstanding rest)) := by
  rw [exec, execNoticeHeadWriteResponse, answered_of ho rfl]
  simp only [recordAnswered, State.setOutstanding_units, hu, hph, hrec, failingWrite]

end

/-- Settles O48: the record fails by either write, its unit, its job and the engine are as `failRecord_eq` says, and its
kinds return (`returnKinds_of_device`, `returnKinds_of_ring`, `returnKinds_of_cleared`, `returned_putBack`). -/
theorem recordFails : Obligations.RecordFails := by
  intro s p u rec closing rest w hu hph ho hw failing back
  have hset (src : Source) (q : Port) : pendingSet (s.setOutstanding rest) src q = pendingSet s src q := by
    cases src <;> rfl
  have hback {t : State} {q : Port} {k : KindSet} (h : Returned (s.setOutstanding rest) t rec.source q k) :
      back q k t := by
    simp only [Returned, hset] at h
    exact h
  obtain ⟨hout, htime, hholds, horder, hbus⟩ := returnKinds_fields p rec (s.setOutstanding rest)
  refine ⟨failRecord p u rec closing (failingWrite u rec) (s.setOutstanding rest), ?_, ?_⟩
  · rcases hw with ⟨rfl, hrec⟩ | ⟨rfl, hrec⟩
    · exact execRecordBurstResponse_memErr hu hph ho hrec
    · exact execNoticeHeadWriteResponse_memErr hu hph ho hrec
  · rw [failRecord_eq]
    refine ⟨hout, rfl, rfl, ?_, fun hsrc => ?_, fun r b hsrc hc hb => ?_, fun r hsrc hc => ?_,
      returnKinds_ring p rec _, htime, hholds, horder, hbus⟩
    · exact noticeOffResult_some (failingWrite u rec) ▸ rfl
    · exact hback (returnKinds_of_device (s.setOutstanding rest) p hsrc ▸ returned_putBack ..)
    · exact hback (returnKinds_of_ring (s.setOutstanding rest) p hsrc hc hb ▸ returned_putBack ..)
    · have hnone := returnKinds_of_cleared (s.setOutstanding rest) p hsrc hc
      dsimp only
      rw [hnone]
      exact ⟨rfl, rfl, rfl⟩

end Sys2Proof.Machine
end

section
/-! The eight words of a notice record (R95, R133, R181, R183, R187): each word's fields at their bits, and the entry's
fields they are. -/

namespace Sys2Proof.Machine

/-! ### The words of a record's fields (R187) -/

/-- Fields side by side in plain numbers, the last one lowest. -/
theorem toNat_append_eq_add {m n : Nat} (x : BitVec m) (y : BitVec n) :
    (x ++ y).toNat = y.toNat + 2 ^ n * x.toNat := by
  rw [BitVec.toNat_append, Nat.shiftLeft_eq, Nat.mul_comm, ← Nat.two_pow_add_eq_or_of_lt y.isLt, Nat.add_comm]

theorem sourceByte_ring (r : RingId) : (sourceByte (.ring r)).toNat = r.val := by
  have := r.isLt
  rw [sourceByte, BitVec.toNat_ofNat, Nat.mod_eq_of_lt (by omega)]

/-- Word 0 of a record. -/
theorem recordHeader_eq (src : Source) (kinds : KindSet) (seq : Index) : recordHeader src kinds seq =
    BitVec.ofNat 32 ((sourceByte src).toNat + 256 * kinds.toNat + 65536 * seq.toNat) := by
  apply BitVec.eq_of_toNat_eq
  have := kinds.isLt
  have := seq.isLt
  have := (sourceByte src).isLt
  simp only [recordHeader, toNat_append_eq_add, BitVec.toNat_ofNat]
  omega

/-- The engine status word of a HALTED engine (R183). -/
theorem engineStatusWord_halted (info : HaltInfo) : engineStatusWord (.halted info) =
    BitVec.ofNat 32 (1 + 256 * haltNumber info.cause + 65536 * info.slot.val) := by
  apply BitVec.eq_of_toNat_eq
  have := info.slot.isLt
  have := info.cause.code.isLt
  simp only [engineStatusWord, toNat_append_eq_add, HaltCause.code_toNat, BitVec.toNat_ofNat] at this ⊢
  omega

section
variable (kind : BitVec 4) (port seen : BitVec 1) (cause : BitVec 2) (track : BitVec 1) (state : BitVec 3)

/-- Word 3 of a ring's record of its fields. -/
def ringWord : BitVec (20 + 4 + 1 + 1 + 2 + 1 + 3) := 0#20 ++ kind ++ port ++ seen ++ cause ++ track ++ state

/-- The codes of word 3 of a ring's record. -/
theorem ringWord_fields :
    let v := ringWord kind port seen cause track state
    v.extractLsb' 0 3 = state ∧ v.extractLsb' 4 2 = cause ∧ v.extractLsb' 7 1 = port ∧ v.extractLsb' 8 4 = kind ∧
      v.extractLsb' 12 20 = 0 := by
  simp (disch := decide) only [ringWord, BitVec.extractLsb'_append_eq_of_le,
    BitVec.extractLsb'_append_eq_of_add_le, Nat.reduceSub, BitVec.extractLsb'_eq_self, -Nat.reduceAdd]
  decide

/-- The flags of word 3 of a ring's record. -/
theorem ringWord_flags :
    let v := ringWord kind port seen cause track state
    v.getLsbD 3 = track.getLsbD 0 ∧ v.getLsbD 6 = seen.getLsbD 0 := by
  simp only [ringWord, BitVec.getLsbD_append, -Nat.reduceAdd]
  simp

/-- The last violation's fields of word 3 of a ring's record together. -/
theorem ringWord_last : (ringWord kind port seen cause track state).extractLsb' 7 5 = kind ++ port := by
  refine BitVec.eq_of_getLsbD_eq fun i hi => ?_
  simp only [ringWord, BitVec.getLsbD_extractLsb', BitVec.getLsbD_append, -Nat.reduceAdd]
  interval_cases i <;> simp

end

/-! ### The words of a ring's record (R95) -/

/-- Word 3 of a ring's record: the state of its entry and its last violation. -/
def stateWord (e : RingEntry) : Word :=
  ringWord (lastKindField e) (lastPortField e) (flagBit e.last.isSome) (faultKindField e) (flagBit e.tracking?.isSome)
    e.stateCode

theorem recordWords_ring (s : State) (r : RingId) (kinds : KindSet) (seq : Index) :
    recordWords s (.ring r) kinds seq =
      [BitVec.ofNat 32 (r.val + 256 * kinds.toNat + 65536 * seq.toNat),
        (tailField (s.ring r) ++ headField (s.ring r) : BitVec 32),
        ((s.ring r).count ++ fillField (s.ring r) : BitVec 32), stateWord (s.ring r), lastAddressField (s.ring r),
        s.time, (0#30 ++ holdingPortField s r ++ heldField s r : BitVec 32), 0] := by
  rw [recordWords, ringRecord, recordHeader_eq, sourceByte_ring]
  rfl

theorem recordWords_device (s : State) (kinds : KindSet) (seq : Index) : recordWords s .device kinds seq =
    [BitVec.ofNat 32 (255 + 256 * kinds.toNat + 65536 * seq.toNat), 0, 0, 0, 0, s.time,
      engineStatusWord s.engine.state, 0] := by
  rw [recordWords, deviceRecord, recordHeader_eq]
  rfl

section
variable {e : RingEntry} {head tail : Index}

/-- The tracking record's words of a ring's record (R5). -/
theorem trackingWords_of_some (ht : e.tracking? = some (head, tail)) :
    (tailField e ++ headField e : BitVec 32) = BitVec.ofNat 32 (head.toNat + 65536 * tail.toNat) ∧
      (e.count ++ fillField e : BitVec 32) =
        BitVec.ofNat 32 (ahead head.toNat tail.toNat + 65536 * e.count.toNat) := by
  have hfill : (fillField e).toNat = ahead head.toNat tail.toNat := by
    simp only [fillField, ht, Option.map_some, Option.getD_some, distance_eq_ahead, BitVec.toNat_ofNat]
    exact Nat.mod_eq_of_lt (ahead_lt ..)
  refine ⟨?_, by rw [append_index_halves, hfill]⟩
  rw [append_index_halves]
  simp only [headField, tailField, ht, Option.map_some, Option.getD_some]

/-- No tracking record: its fields are zero (R181). -/
theorem trackingWords_of_none (ht : e.tracking? = none) :
    (tailField e ++ headField e : BitVec 32) = 0 ∧
      (e.count ++ fillField e : BitVec 32) = BitVec.ofNat 32 (65536 * e.count.toNat) := by
  have hfill : (fillField e).toNat = 0 := by simp [fillField, ht]
  refine ⟨?_, by rw [append_index_halves, hfill, Nat.zero_add]⟩
  simp only [headField, tailField, ht]
  rfl

/-- The codes of word 3. -/
theorem stateWord_codes (e : RingEntry) :
    let w := stateWord e
    w.extractLsb' 0 3 = e.stateCode ∧ w.extractLsb' 4 2 = faultKindField e ∧ w.extractLsb' 7 1 = lastPortField e ∧
      w.extractLsb' 8 4 = lastKindField e ∧ w.extractLsb' 12 20 = 0 := ringWord_fields ..

/-- The flags of word 3. -/
theorem stateWord_flags (e : RingEntry) :
    (stateWord e).getLsbD 3 = e.isTracking ∧ (stateWord e).getLsbD 6 = e.last.isSome := by
  obtain ⟨htrack, hseen⟩ := ringWord_flags (lastKindField e) (lastPortField e) (flagBit e.last.isSome)
    (faultKindField e) (flagBit e.tracking?.isSome) e.stateCode
  exact ⟨htrack.trans ((flagBit_getLsbD _).trans e.isSome_tracking?), hseen.trans (flagBit_getLsbD _)⟩

/-- The fault kind of a ring's record: zero when the fault record is absent (R7, R181). -/
theorem stateWord_fault {f : FaultRecord} (hf : e.fault? = some f) :
    ((stateWord e).extractLsb' 4 2).toNat = faultNumber f.cause := by
  obtain ⟨-, hcause, -⟩ := stateWord_codes e
  simp [hcause, faultKindField, hf]

theorem stateWord_no_fault (hf : e.fault? = none) : (stateWord e).extractLsb' 4 2 = 0 := by
  obtain ⟨-, hcause, -⟩ := stateWord_codes e
  simp [hcause, faultKindField, hf]

/-- The last violation's fields of a ring's record (R23). -/
theorem stateWord_last {l : LastViolation} (hl : e.last = some l) :
    ((stateWord e).extractLsb' 7 1).toNat = portNumber l.port ∧
      ((stateWord e).extractLsb' 8 4).toNat = violationNumber l.kind ∧ lastAddressField e = l.address := by
  obtain ⟨-, -, hport, hkind, -⟩ := stateWord_codes e
  exact ⟨by simp [hport, lastPortField, hl], by simp [hkind, lastKindField, hl], by simp [lastAddressField, hl]⟩

/-- No last violation: its fields are zero (R181). -/
theorem stateWord_no_last (hl : e.last = none) : (stateWord e).extractLsb' 7 5 = 0 ∧ lastAddressField e = 0 := by
  obtain ⟨hkind, hport, haddress⟩ := fields_of_no_last hl
  refine ⟨(ringWord_last ..).trans ?_, haddress⟩
  rw [hkind, hport]
  rfl

end

section
variable {s : State} {r : RingId}

/-- The hold word of a ring's record (R85). -/
theorem holdWord_of_held {p : Port} {h : HoldSlot} (hh : heldOn s r = some (p, h)) :
    (0#30 ++ holdingPortField s r ++ heldField s r : BitVec 32) = BitVec.ofNat 32 (1 + 2 * portNumber p) := by
  cases p <;> simp [holdingPortField, heldField, hh, flagBit, portBit, portNumber]

theorem holdWord_of_none (hh : heldOn s r = none) :
    (0#30 ++ holdingPortField s r ++ heldField s r : BitVec 32) = 0 := by
  simp only [holdingPortField, heldField, hh]
  rfl

end

/-- Settles O46: the words of each record (`recordWords_ring`, `recordWords_device`), field by field. -/
theorem recordLayout : Obligations.RecordLayout := by
  intro s kinds seq
  refine ⟨fun r => ?_, ?_⟩
  · intro e
    obtain ⟨hstate, -, -, -, hzero⟩ := stateWord_codes e
    obtain ⟨htrack, hseen⟩ := stateWord_flags e
    exact ⟨_, _, _, _, _, recordWords_ring s r kinds seq,
      fun b head tail hb hp => trackingWords_of_some (RingEntry.tracking?_eq_some hb hp),
      fun ht => trackingWords_of_none (RingEntry.tracking?_eq_none ht), hstate ▸ e.stateCode_toNat, htrack,
      fun b f oh ot hb hp => stateWord_fault (RingEntry.fault?_eq_some hb hp),
      fun hs => stateWord_no_fault (RingEntry.fault?_eq_none hs), hseen, fun l => stateWord_last, stateWord_no_last,
      hzero, fun ⟨p, h⟩ => holdWord_of_held, holdWord_of_none⟩
  · rw [recordWords_device]
    cases s.engine.state with
    | halted info => exact engineStatusWord_halted info ▸ rfl
    | _ => rfl

end Sys2Proof.Machine
end

section
/-! SUPPORT. What the assertion of a port reset line makes of the other port's notices: FAULT raised ring by ring in the
order of the free value, then PEER_RESET (R19, R90, R92, R93, log entry 8). -/

namespace Sys2Proof.Machine

variable {s t : State} {p q : Port} {r i : RingId} {b : RingBody}

/-! ### The raising of FAULT by one ring (R57, R90, R93) -/

/-- A TRACKING ring that tells port `q` of its faults: its entry into FAULTED raises FAULT toward `q` (R57, R90). -/
def tellsFault (s : State) (q : Port) (r : RingId) : Bool :=
  (s.ring r).isTracking && (s.ring r).body.any fun b => b.desc.notify == q && b.desc.mask.getLsbD 3

/-- Its FAULT makes it join the queue of `q`: its set for `q` is empty (R93). -/
def joinsByFault (s : State) (q : Port) (r : RingId) : Bool := tellsFault s q r && (s.ring r).pend.get q == 0

/-- The set raised toward `q` by the ring's fault. -/
def faultKinds (s : State) (q : Port) (r : RingId) : KindSet := if tellsFault s q r then 0b001000#6 else 0

theorem tellsFault_eq (hb : (s.ring r).body = some b) (ht : (s.ring r).isTracking = true) (q : Port) :
    tellsFault s q r = (b.desc.notify == q && b.desc.mask.getLsbD 3) := by
  simp only [tellsFault, ht, hb, Option.any_some, Bool.true_and]

theorem tellsFault_of_not (ht : (s.ring r).isTracking = false) (q : Port) : tellsFault s q r = false := by
  simp only [tellsFault, ht, Bool.false_and]

theorem tellsFault_congr (h : t.ring r = s.ring r) (q : Port) : tellsFault t q r = tellsFault s q r := by
  simp only [tellsFault, h]

theorem joinsByFault_congr (h : t.ring r = s.ring r) (q : Port) : joinsByFault t q r = joinsByFault s q r := by
  simp only [joinsByFault, tellsFault_congr h, h]

/-- The fault of one ring touches no other ring's entry. -/
theorem faultEntry_ring_ne (cause : FaultCause) (s : State) (h : i ≠ r) : (faultEntry r cause s).ring i = s.ring i := by
  unfold faultEntry
  split
  · split
    · rw [raiseRing_ring_ne _ _ h]
      simp [State.ring_setBody_ne _ _ h]
    · rfl
  · rfl

/-- The pending sets of a ring that faults. -/
theorem faultEntry_pend (cause : FaultCause) (s : State) (q : Port) :
    ((faultEntry r cause s).ring r).pend.get q = (s.ring r).pend.get q ||| faultKinds s q r := by
  cases ht : (s.ring r).isTracking with
  | false => simp [faultEntry_of_not ht, faultKinds, tellsFault_of_not ht]
  | true =>
    rcases hb : (s.ring r).body with _ | b
    · simp [RingEntry.isTracking_of_free hb] at ht
    · obtain ⟨head, tail, hph⟩ := (RingEntry.isTracking_iff hb).1 ht
      rw [faultEntry_of_tracking cause hb hph,
        raiseRing_ring (b := b.withPhase (.faulted { cause := cause, time := s.time } none none)) (by simp)]
      simp only [RingBody.withPhase, State.ring_setBody_self, releaseHeldOn_ring, dropAppliedMarks_ring, kindBit,
        faultKinds, tellsFault_eq hb ht]
      by_cases hq : q = b.desc.notify
      · cases b.desc.mask.getLsbD 3 <;> simp [hq]
      · cases b.desc.mask.getLsbD 3 <;> simp [PerPort.get_set_ne _ _ hq, Ne.symm hq]

/-- The queues when a ring faults. -/
theorem faultEntry_queue (cause : FaultCause) (s : State) (q : Port) :
    (faultEntry r cause s).queues.get q =
      s.queues.get q ++ if joinsByFault s q r then [Source.ring r] else [] := by
  cases ht : (s.ring r).isTracking with
  | false => simp [faultEntry_of_not ht, joinsByFault, tellsFault_of_not ht]
  | true =>
    rcases hb : (s.ring r).body with _ | b
    · simp [RingEntry.isTracking_of_free hb] at ht
    · obtain ⟨head, tail, hph⟩ := (RingEntry.isTracking_iff hb).1 ht
      rw [faultEntry_of_tracking cause hb hph,
        raiseRing_queues (b := b.withPhase (.faulted { cause := cause, time := s.time } none none)) (by simp)]
      simp only [RingBody.withPhase, State.ring_setBody_self, releaseHeldOn_ring, dropAppliedMarks_ring, kindBit,
        releaseHeldOn_queues, dropAppliedMarks_queues, State.setBody_queues, joinsByFault, tellsFault_eq hb ht]
      by_cases hq : q = b.desc.notify
      · subst hq
        by_cases hempty : (s.ring r).pend.get b.desc.notify = 0#6 <;> cases b.desc.mask.getLsbD 3 <;> simp [hempty]
      · split <;> simp [PerPort.get_set_ne _ _ hq, Ne.symm hq]

/-! ### The raising of FAULT by every TRACKING ring (R19, log entry 8) -/

/-- The rings of a list fault one after another: each adds its FAULT once, and joins in the list's order. -/
theorem foldl_faultEntry_notices {l : List RingId} (hl : l.Nodup) (s : State) (q : Port) :
    (∀ i, ((l.foldl (fun t r => faultEntry r .peerReset t) s).ring i).pend.get q =
      (s.ring i).pend.get q ||| if i ∈ l then faultKinds s q i else 0) ∧
    (l.foldl (fun t r => faultEntry r .peerReset t) s).queues.get q =
      s.queues.get q ++ (l.filter (joinsByFault s q)).map Source.ring := by
  induction l generalizing s with
  | nil => simp
  | cons r l ih =>
    obtain ⟨hr, hl⟩ := List.nodup_cons.1 hl
    obtain ⟨hpend, hqueue⟩ := ih hl (faultEntry r .peerReset s)
    have hrest : ∀ i ∈ l, (faultEntry r .peerReset s).ring i = s.ring i := fun i hi =>
      faultEntry_ring_ne _ _ (ne_of_mem_of_not_mem hi hr)
    refine ⟨fun i => ?_, ?_⟩
    · rw [List.foldl_cons, hpend]
      by_cases hi : i = r
      · subst hi
        simp [hr, faultEntry_pend]
      · rw [faultEntry_ring_ne _ _ hi]
        by_cases hil : i ∈ l
        · simp [hil, hi, faultKinds, tellsFault_congr (hrest i hil)]
        · simp [hil, hi]
    · have hfilter : l.filter (joinsByFault (faultEntry r .peerReset s) q) = l.filter (joinsByFault s q) :=
        List.filter_congr fun i hi => joinsByFault_congr (hrest i hi) q
      rw [List.foldl_cons, hqueue, hfilter, faultEntry_queue, List.append_assoc, List.filter_cons]
      split <;> rfl

theorem faultOrder_perm (s : State) : (faultOrder s).Perm (ringIds.filter fun r => (s.ring r).isTracking) :=
  List.perm_insertionSort ..

theorem faultOrder_nodup (s : State) : (faultOrder s).Nodup :=
  (faultOrder_perm s).nodup_iff.2 ((List.nodup_finRange 24).filter _)

/-- The rings that join the queue of `q` as they fault, in the order in which they do. -/
def joining (s : State) (q : Port) : List RingId := (faultOrder s).filter (joinsByFault s q)

theorem joining_perm (s : State) (q : Port) : (joining s q).Perm (ringIds.filter (joinsByFault s q)) := by
  refine ((faultOrder_perm s).filter _).trans (List.Perm.of_eq ?_)
  rw [List.filter_filter]
  refine List.filter_congr fun r _ => ?_
  cases ht : (s.ring r).isTracking with
  | true => rw [Bool.and_true]
  | false => simp only [joinsByFault, tellsFault_of_not ht, Bool.false_and]

/-- What the faults of a port reset make of pending sets and queues (R19, R92, R93). -/
theorem faultTracking_notices (s : State) (q : Port) :
    (∀ i, ((faultTracking s).ring i).pend.get q = (s.ring i).pend.get q ||| faultKinds s q i) ∧
      (faultTracking s).queues.get q = s.queues.get q ++ (joining s q).map Source.ring := by
  obtain ⟨hpend, hqueue⟩ := foldl_faultEntry_notices (faultOrder_nodup s) { s with freeCount := s.freeCount + 1 } q
  refine ⟨fun i => (hpend i).trans ?_, hqueue⟩
  cases ht : (s.ring i).isTracking with
  | true => rw [if_pos (mem_faultOrder.2 ht)]; rfl
  | false =>
    have hnot : i ∉ faultOrder s := by simp [mem_faultOrder, ht]
    rw [if_neg hnot, faultKinds, tellsFault_of_not ht]
    rfl

end Sys2Proof.Machine
end

section
/-! SUPPORT. The reset of a port, step by step: its own notices cleared, the other port's after PEER_RESET, the units,
the requester's job and the engine's wait (R92, R93, R100, R107, R108, R119). -/

namespace Sys2Proof.Machine

variable {s t : State} {p q u : Port} {r : RingId}

/-! ### Pending sets and queues (R92, R93, R100) -/

/-- What raising a device kind makes of the DEVICE sets and of the queues (R91, R93). -/
theorem raiseDevice_eq (p : Port) (k : DeviceKind) (s : State) : raiseDevice p k s =
    { s with
      device := s.device.set p (s.device.get p ||| k.bit)
      queues := if s.device.get p = 0 then s.queues.set p (s.queues.get p ++ [.device]) else s.queues } := by
  by_cases h : s.device.get p = 0
  · simp only [raiseDevice, raise, pendingSet, setPendingSet, h, if_true]
    rfl
  · simp only [raiseDevice, raise, pendingSet, setPendingSet, h, if_false]
    rfl

@[simp] theorem resetUnit_queues (p : Port) (s : State) : (resetUnit p s).queues = s.queues := by
  unfold resetUnit
  dsimp only
  split <;> simp

@[simp] theorem resetUnit_device (p : Port) (s : State) : (resetUnit p s).device = s.device := by
  unfold resetUnit
  dsimp only
  split <;> simp

/-- What no single ring's fault changes, the faults of all of them leave alone. -/
theorem faultTracking_keeps {α : Type} (f : State → α) (s : State)
    (fault : ∀ (r : RingId) (t : State), f (faultEntry r .peerReset t) = f t)
    (counted : f { s with freeCount := s.freeCount + 1 } = f s) : f (faultTracking s) = f s := by
  have hfold (l : List RingId) (t : State) : f (l.foldl (fun t r => faultEntry r .peerReset t) t) = f t := by
    induction l generalizing t with
    | nil => rfl
    | cons r l ih => rw [List.foldl_cons, ih, fault]
  exact (hfold ..).trans counted

@[simp] theorem faultTracking_device (s : State) : (faultTracking s).device = s.device :=
  faultTracking_keeps State.device s (fun _ _ => faultEntry_device ..) rfl

/-- Each ring's sets after the steps before the last: the reset port's is empty, the other port's has taken in the
ring's FAULT (R92, R100). -/
theorem resetSteps_pend (p : Port) (r : RingId) (s : State) :
    ((resetSteps p s).ring r).pend.get p = 0 ∧
      ((resetSteps p s).ring r).pend.get (other p) =
        (s.ring r).pend.get (other p) ||| faultKinds s (other p) r := by
  obtain ⟨hpend, -⟩ := faultTracking_notices (discardRequests p (setPortReset p true s)) (other p)
  have hring : (resetSteps p s).ring r = (clearPortNotices p (raiseDevice (other p) .peerReset
    ((faultTracking (discardRequests p (setPortReset p true s))).mapRings RingEntry.flagPeerReset))).ring r :=
    State.ring_congr (resetUnit_rings ..) r
  rw [hring, raiseDevice_eq]
  simp only [clearPortNotices, State.ring_setQueue, State.ring_setDevice, State.ring_mapRings, PerPort.get_set_self,
    PerPort.get_set_other, true_and]
  refine Eq.trans ?_ (hpend r)
  change ((((faultTracking _).mapRings RingEntry.flagPeerReset).ring r).pend).get (other p) = _
  rw [State.ring_mapRings, RingEntry.flagPeerReset_eq]

/-- The DEVICE sets after the steps before the last (R92, R100). -/
theorem resetSteps_device (p : Port) (s : State) :
    (resetSteps p s).device.get p = 0 ∧
      (resetSteps p s).device.get (other p) = s.device.get (other p) ||| 0b000010#6 := by
  simp only [resetSteps, resetUnit_device, raiseDevice_eq, clearPortNotices, State.setQueue_device,
    State.setDevice_device, State.mapRings_device, PerPort.get_set_self, PerPort.get_set_other, faultTracking_device]
  exact ⟨trivial, rfl⟩

/-- The queues after the steps before the last: the rings that tell the other port of their faults have joined its
queue, and DEVICE behind them (R92, R93, R100). -/
theorem resetSteps_queues (p : Port) (s : State) :
    (resetSteps p s).queues.get p = [] ∧
      (resetSteps p s).queues.get (other p) = s.queues.get (other p) ++ (joining s (other p)).map Source.ring ++
        if s.device.get (other p) = 0 then [Source.device] else [] := by
  obtain ⟨-, hqueue⟩ := faultTracking_notices (discardRequests p (setPortReset p true s)) (other p)
  have hdevice : (discardRequests p (setPortReset p true s)).device = s.device := rfl
  simp only [resetSteps, resetUnit_queues, raiseDevice_eq, clearPortNotices, State.setQueue_queues,
    State.setDevice_queues, State.mapRings_queues, State.mapRings_device, PerPort.get_set_self, PerPort.get_set_other,
    faultTracking_device, hdevice, true_and]
  split
  · rw [PerPort.get_set_self, hqueue]
    rfl
  · rw [hqueue, List.append_nil]
    rfl

@[simp] theorem State.pend_setBody (s : State) (r i : RingId) (b : RingBody) :
    ((s.setBody r b).ring i).pend = (s.ring i).pend := by
  by_cases h : i = r
  · subst h; simp
  · rw [State.ring_setBody_ne _ _ h]

/-- Queues and pending sets are the same. -/
@[simp] def SameSets (s t : State) : Prop :=
  t.queues = s.queues ∧ t.device = s.device ∧ ∀ r, (t.ring r).pend = (s.ring r).pend

theorem SameSets.abandonSeeding (s : State) : SameSets s (abandonSeeding s) := by
  rcases abandonSeeding_cases s with ⟨h, -⟩ | ⟨r, b, rec, -, -, -, h⟩ <;> rw [h] <;> simp

theorem SameSets.abandonUnitWait (s : State) : SameSets s (abandonUnitWait s) := by
  have hrings (r : RingId) := State.ring_congr (abandonUnitWait_rings s) r
  refine ⟨?_, ?_, fun r => by rw [hrings]⟩
  all_goals
    unfold Machine.abandonUnitWait
    split <;> simp

theorem SameSets.drainTestSeeding (s : State) : SameSets s (drainTestSeeding s) := by
  refine ⟨by simp, by simp, fun r => ?_⟩
  unfold Machine.drainTestSeeding
  split
  · rename_i i _
    rcases drainTest_cases i s with h | ⟨b, rec, -, -, -, h⟩ <;> rw [h]
    simp
  · rfl

/-- The last step of a reset leaves queues and pending sets alone. -/
theorem SameSets.portResetEnd (p : Port) (s : State) : SameSets (resetSteps p s) (portResetEnd p s) := by
  unfold Machine.portResetEnd
  split
  · obtain ⟨hqueues, hdevice, hpend⟩ := SameSets.abandonSeeding (resetSteps p s)
    obtain ⟨hqueues', hdevice', hpend'⟩ := SameSets.abandonUnitWait (Machine.abandonSeeding (resetSteps p s))
    refine ⟨?_, ?_, fun r => ?_⟩
    · rw [reinitEngine_queues, hqueues', hqueues]
    · rw [reinitEngine_device, hdevice', hdevice]
    · rw [reinitEngine_ring, hpend', hpend]
  · exact .drainTestSeeding _

/-! ### The units (R107, R108, R119) -/

/-- The unit a command waits for, once that command is abandoned (R107, R108). -/
theorem abandonUnitWait_units (s : State) (q : Port) : (abandonUnitWait s).units.get q =
    if s.engine.state = .waiting (.setup q) then none
    else if s.engine.state = .waiting (.noticeOff q) then (s.units.get q).map NoticeUnit.stopClosing
    else s.units.get q := by
  split_ifs with hsetup hoff
  · exact abandonUnitWait_units_of_setup hsetup
  · exact abandonUnitWait_units_of_noticeOff hoff
  · unfold abandonUnitWait
    split
    · rename_i u hu
      have hq : q ≠ u := fun h => hsetup (h ▸ hu)
      simp [PerPort.get_set_ne _ _ hq]
    · rename_i u hu
      have hq : q ≠ u := fun h => hoff (h ▸ hu)
      simp [PerPort.get_set_ne _ _ hq]
    · rfl

theorem portResetEnd_units (p q : Port) (s : State) : (portResetEnd p s).units.get q =
    if p ≠ s.mgmt then (s.units.set p none).get q
    else if s.engine.state = .waiting (.setup q) then none
    else if s.engine.state = .waiting (.noticeOff q) then ((s.units.set p none).get q).map NoticeUnit.stopClosing
    else (s.units.set p none).get q := by
  unfold portResetEnd
  by_cases hp : p = s.mgmt
  · rw [if_pos hp, if_neg (not_not_intro hp), reinitEngine_units, abandonUnitWait_units, abandonSeeding_engine,
      abandonSeeding_units, resetSteps_units, resetSteps_engine (.inl hp)]
  · rw [if_neg hp, if_pos hp, drainTestSeeding_units, resetSteps_units]

/-- The reset port's unit is OFF (R119). -/
theorem portResetEnd_units_self (p : Port) (s : State) : (portResetEnd p s).units.get p = none := by
  rw [portResetEnd_units, PerPort.get_set_self]
  split_ifs <;> rfl

/-! ### The requester's job (R107, R119) -/

theorem abandonJob_job (p : Port) (s : State) (j : NoticeJob) :
    (abandonJob p s).requester.job = some j ↔ s.requester.job = some j ∧ j.unit ≠ p := by
  unfold abandonJob
  split
  · rename_i j' hj
    split
    · rename_i hu
      simp only [State.setJob_requester, reduceCtorEq, hj, Option.some.injEq, false_iff, not_and, not_not]
      rintro rfl
      exact hu
    · rename_i hu
      simp only [State.setOutstanding_requester, hj, Option.some.injEq]
      exact ⟨fun h => ⟨h, h ▸ hu⟩, And.left⟩
  · rename_i hj
    simp [hj]

@[simp] theorem abandonJob_lastServed (p : Port) (s : State) :
    (abandonJob p s).requester.lastServed = s.requester.lastServed := by
  unfold abandonJob
  split
  · split <;> rfl
  · rfl

theorem abandonUnitWait_job (s : State) (j : NoticeJob) : (abandonUnitWait s).requester.job = some j ↔
    s.requester.job = some j ∧ s.engine.state ≠ .waiting (.setup j.unit) := by
  unfold abandonUnitWait
  split
  · rename_i u hu
    rw [abandonJob_job, unitOff_requester]
    simp [hu, eq_comm]
  · rename_i u hu
    simp [hu]
  · rename_i hsetup _
    exact (and_iff_left (hsetup j.unit)).symm

@[simp] theorem abandonUnitWait_lastServed (s : State) :
    (abandonUnitWait s).requester.lastServed = s.requester.lastServed := by
  unfold abandonUnitWait
  split <;> simp

@[simp] theorem faultTracking_requester (s : State) : (faultTracking s).requester = s.requester :=
  faultTracking_keeps State.requester s (fun _ _ => faultEntry_requester ..) rfl

theorem resetUnit_requester (p : Port) (s : State) :
    (resetUnit p s).requester = (abandonJob p (unitOff p s)).requester := by
  unfold resetUnit
  dsimp only
  split <;> simp

/-- The reset port's unit's job is given up before the last step (R119). -/
theorem resetSteps_requester (p : Port) (s : State) :
    (resetSteps p s).requester.lastServed = s.requester.lastServed ∧
      ∀ j, (resetSteps p s).requester.job = some j ↔ s.requester.job = some j ∧ j.unit ≠ p := by
  have hbefore : (discardRequests p (setPortReset p true s)).requester = s.requester := rfl
  simp [resetSteps, resetUnit_requester, abandonJob_job, hbefore]

@[simp] theorem abandonSeeding_requester (s : State) : (abandonSeeding s).requester = s.requester := by
  rcases abandonSeeding_cases s with ⟨h, -⟩ | ⟨r, b, rec, -, -, -, h⟩ <;> rw [h]
  simp

@[simp] theorem reinitEngine_requester (s : State) : (reinitEngine s).requester = s.requester := by
  unfold reinitEngine
  split <;> simp

/-- A job goes on unless it is the reset port's unit's, or that of a unit whose setup is abandoned (R107, R119). -/
theorem portResetEnd_requester (p : Port) (s : State) :
    (portResetEnd p s).requester.lastServed = s.requester.lastServed ∧
      ∀ j, (portResetEnd p s).requester.job = some j ↔
        s.requester.job = some j ∧ j.unit ≠ p ∧ ¬(p = s.mgmt ∧ s.engine.state = .waiting (.setup j.unit)) := by
  obtain ⟨hserved, hjob⟩ := resetSteps_requester p s
  unfold portResetEnd
  split
  · rename_i hp
    refine ⟨?_, fun j => ?_⟩
    · rw [reinitEngine_requester, abandonUnitWait_lastServed, abandonSeeding_requester, hserved]
    · rw [reinitEngine_requester, abandonUnitWait_job, abandonSeeding_requester, abandonSeeding_engine,
        resetSteps_engine (.inl hp), hjob, and_assoc, and_iff_right hp]
  · rename_i hp
    refine ⟨?_, fun j => ?_⟩
    · rw [drainTestSeeding_requester, hserved]
    · rw [drainTestSeeding_requester, hjob, and_iff_left (not_and_of_not_left _ hp)]

/-! ### The responses of a unit's granted writes (R107, R119) -/

/-- Every response to a write for unit `u` is discarded on arrival. -/
def GivenUp (u : Port) (l : List OutEntry) : Prop := ∀ o ∈ l, ∀ w, o.origin = .notice u w → o.discarded = true

/-- A change of entries that keeps their origins and what is discarded of them. -/
theorem GivenUp.map {l : List OutEntry} {f : OutEntry → OutEntry} (h : GivenUp u l)
    (hf : ∀ o, (f o).origin = o.origin ∧ (o.discarded = true → (f o).discarded = true)) : GivenUp u (l.map f) := by
  intro o ho w hw
  obtain ⟨o', ho', rfl⟩ := List.mem_map.1 ho
  obtain ⟨horigin, hdiscarded⟩ := hf o'
  exact hdiscarded (h o' ho' w (horigin ▸ hw))

/-- Giving up a unit's job discards the responses of its granted writes. -/
theorem abandonJob_givenUp (u : Port) (s : State) : GivenUp u (abandonJob u s).outstanding := by
  rw [abandonJob_outstanding]
  intro o ho w hw
  obtain ⟨⟨origin, d⟩, -, rfl⟩ := List.mem_map.1 ho
  cases origin with
  | notice u' w' =>
    by_cases hu : u' = u
    · simp [hu]
    · simp [hu] at hw
  | port p n ring applied => cases hw
  | engine k => cases hw

theorem GivenUp.abandonJob (h : GivenUp u s.outstanding) (q : Port) : GivenUp u (abandonJob q s).outstanding := by
  rw [abandonJob_outstanding]
  refine h.map fun ⟨origin, d⟩ => ?_
  cases origin with
  | notice u' w => by_cases hu : u' = q <;> simp [hu]
  | _ => exact ⟨rfl, id⟩

theorem GivenUp.abandonUnitWait (h : GivenUp u s.outstanding) : GivenUp u (abandonUnitWait s).outstanding := by
  unfold Machine.abandonUnitWait
  split
  · exact GivenUp.abandonJob (by simpa using h) _
  · exact h
  · exact h

theorem abandonUnitWait_givenUp (h : s.engine.state = .waiting (.setup u)) :
    GivenUp u (abandonUnitWait s).outstanding := by
  simp only [abandonUnitWait, h]
  exact abandonJob_givenUp _ _

theorem GivenUp.reinitEngine (h : GivenUp u s.outstanding) : GivenUp u (reinitEngine s).outstanding := by
  unfold Machine.reinitEngine
  split
  · exact h
  · refine h.map fun ⟨origin, d⟩ => ?_
    cases origin with
    | engine k => exact ⟨rfl, fun _ => rfl⟩
    | _ => exact ⟨rfl, id⟩

theorem resetUnit_outstanding (p : Port) (s : State) : (resetUnit p s).outstanding = (abandonJob p s).outstanding := by
  unfold resetUnit
  dsimp only
  split <;> simp [abandonJob_outstanding]

@[simp] theorem abandonSeeding_outstanding (s : State) : (abandonSeeding s).outstanding = s.outstanding := by
  rcases abandonSeeding_cases s with ⟨h, -⟩ | ⟨r, b, rec, -, -, -, h⟩ <;> rw [h]
  simp

/-- The responses of the reset port's granted notice writes are discarded, and those of a unit whose setup is abandoned
(R107, R119). -/
theorem portResetEnd_givenUp (h : u = p ∨ p = s.mgmt ∧ s.engine.state = .waiting (.setup u)) :
    GivenUp u (portResetEnd p s).outstanding := by
  have hself : GivenUp p (resetSteps p s).outstanding := by
    rw [resetSteps, resetUnit_outstanding]
    exact abandonJob_givenUp _ _
  unfold portResetEnd
  split
  · rename_i hp
    refine GivenUp.reinitEngine ?_
    rcases h with rfl | ⟨-, hu⟩
    · exact GivenUp.abandonUnitWait (by simpa using hself)
    · exact abandonUnitWait_givenUp (by rw [abandonSeeding_engine, resetSteps_engine (.inl hp), hu])
  · rename_i hp
    obtain rfl : u = p := h.resolve_right fun h => hp h.1
    rwa [drainTestSeeding_outstanding]

end Sys2Proof.Machine
end

section
/-! The assertion of a port reset line: what becomes of the notices of both ports (R92, R93, R100, R107, R108, R118,
R119). -/

namespace Sys2Proof.Machine

variable {s : State} {p : Port} {c : CurrentCommand}

/-! ### The engine that waits for the reset port's unit (R107, R108, R157) -/

/-- The NOTICE_OFF result with no failing write (R186). -/
theorem noticeOffResult_none : noticeOffResult none = ⟨0, 0, 0, 0, 0, 0⟩ := by
  simp [noticeOffResult, flagBit]

theorem settled_of_waiting {w : EngineWait} (hcur : s.engine.current = some c) (hw : s.engine.state = .waiting w)
    (status : CommandStatus) (words : Params) : settled s w status words = reporting s c status words := by
  simp only [settled, hw, if_true, hcur]

/-- SETUP_NOTICE of the reset port's unit ends PEER_RESET (R107, R157). -/
theorem resetUnit_engine_of_setup (hp : p ≠ s.mgmt) (hcur : s.engine.current = some c)
    (hw : s.engine.state = .waiting (.setup p)) :
    (resetUnit p s).engine = reporting s c .peerReset c.words.params := by
  have hengine : (abandonJob p (unitOff p s)).engine = s.engine := by simp
  have hbase : (abandonJob p (unitOff p s)).ctlBase = s.ctlBase := by simp
  have hparams : fetchedParams (abandonJob p (unitOff p s)) = c.words.params := by
    simp only [fetchedParams, hengine, hcur]
  rw [resetUnit, if_neg hp, settleWait_eq _ (.setup p), settled_congr hengine hbase, hparams,
    settled_of_waiting hcur hw, settleWait_of_ne (by simp [reporting])]

/-- NOTICE_OFF of the reset port's unit ends OK with no failing write (R108). -/
theorem resetUnit_engine_of_noticeOff (hp : p ≠ s.mgmt) (hcur : s.engine.current = some c)
    (hw : s.engine.state = .waiting (.noticeOff p)) :
    (resetUnit p s).engine = reporting s c .ok ⟨0, 0, 0, 0, 0, 0⟩ := by
  have hengine : (abandonJob p (unitOff p s)).engine = s.engine := by simp
  have hbase : (abandonJob p (unitOff p s)).ctlBase = s.ctlBase := by simp
  have hsetup : (abandonJob p (unitOff p s)).engine.state ≠ .waiting (.setup p) := by simp [hw]
  rw [resetUnit, if_neg hp, settleWait_of_ne hsetup, settleWait_eq, settled_congr hengine hbase,
    settled_of_waiting hcur hw, noticeOffResult_none]

/-- The steps before the reset of the unit leave the engine, the window and the managing port alone. -/
theorem resetSteps_eq_resetUnit (p : Port) (s : State) : ∃ t, resetSteps p s = resetUnit p t ∧
    t.engine = s.engine ∧ t.ctlBase = s.ctlBase ∧ t.mgmt = s.mgmt := by
  have haside := Aside.faultTracking (s := discardRequests p (setPortReset p true s))
  refine ⟨_, rfl, ?_, ?_, ?_⟩
  · simp only [clearPortNotices_engine, raiseDevice_engine, State.mapRings_engine, faultTracking_engine]
    rfl
  · simp only [clearPortNotices_ctlBase, raiseDevice_ctlBase, State.mapRings_ctlBase, haside.ctlBase]
    rfl
  · simp only [clearPortNotices_mgmt, raiseDevice_mgmt, State.mapRings_mgmt, haside.mgmt]
    rfl

/-- A command that waits for the reset port's unit ends (R107, R108). -/
theorem resetSteps_engine_of_waiting (hp : p ≠ s.mgmt) (hcur : s.engine.current = some c) :
    (s.engine.state = .waiting (.setup p) →
      (resetSteps p s).engine = reporting s c .peerReset c.words.params) ∧
    (s.engine.state = .waiting (.noticeOff p) →
      (resetSteps p s).engine = reporting s c .ok ⟨0, 0, 0, 0, 0, 0⟩) := by
  obtain ⟨t, hsteps, hengine, hbase, hmgmt⟩ := resetSteps_eq_resetUnit p s
  rw [hsteps, ← reporting_congr hengine hbase]
  rw [← hmgmt] at hp
  rw [← hengine] at hcur ⊢
  exact ⟨resetUnit_engine_of_setup hp hcur, resetUnit_engine_of_noticeOff hp hcur⟩

/-- While no ring is SEEDING the reset of a port that does not manage ends before the draining test. -/
theorem portResetEnd_of_idle (hp : p ≠ s.mgmt) (h : ∀ r, (s.ring r).isSeeding = false) :
    portResetEnd p s = resetSteps p s := by
  have hnone : seedingRing s = none := List.find?_eq_none.2 fun r _ => by simp [h r]
  rw [portResetEnd, if_neg hp, drainTestSeeding, resetSteps_seedingRing, hnone]

/-- Settles O6: the other port's sets and queue (`resetSteps_pend`, `resetSteps_device`, `resetSteps_queues`,
`joining_perm`), which the last step leaves (`SameSets.portResetEnd`); the units, the job and the granted writes; and
the engine (`resetSteps_engine_of_waiting`, `abandonedWait_engine`). -/
theorem portResetNotices : Obligations.PortResetNotices := by
  intro p s hp hr q tells abandoned
  obtain ⟨hqueues, hdevice, hpend⟩ := SameSets.portResetEnd p s
  obtain ⟨hdeviceSelf, hdeviceOther⟩ := resetSteps_device p s
  obtain ⟨hqueueSelf, hqueueOther⟩ := resetSteps_queues p s
  have hoff := portResetEnd_units_self p s
  obtain ⟨hserved, hjob⟩ := portResetEnd_requester p s
  refine ⟨portResetEnd p s, execPortResetAssert_eq hp hr, fun r => ?_, ?_, ⟨joining s q, joining_perm s q, ?_⟩,
    fun hagree => ?_, ?_, ?_, fun r => ?_, hoff, ?_, ?_, hserved, hjob,
    fun o ho u w hw hu => portResetEnd_givenUp hu o ho w hw, fun hne hidle => ?_, fun hmgmt hinit => ?_⟩
  · rw [hpend, (resetSteps_pend p r s).2]
    rfl
  · rw [hdevice, hdeviceOther]
  · rw [hqueues, hqueueOther]
  · rw [hqueues, hqueueOther]
    by_cases hempty : s.device.get (other p) = 0
    · simp [hempty]
    · obtain ⟨-, -, hmem, -⟩ := bothPorts_iff.1 hagree (other p)
      exact List.mem_append_left _ (List.mem_append_left _ (hmem.2 hempty))
  · rw [hdevice, hdeviceSelf]
  · rw [hqueues, hqueueSelf]
  · rw [hpend, (resetSteps_pend p r s).1]
  · simp only [intLine, hoff]
  · rw [portResetEnd_units, PerPort.get_set_other]
    split_ifs
    · rfl
    · rfl
    · refine congrArg (Option.map · _) (funext fun u => ?_)
      rcases u with ⟨_, _, _, _, _, _, _, ph⟩
      cases ph <;> rfl
    · rfl
  · rw [portResetEnd_of_idle hne hidle]
    exact ⟨fun c => resetSteps_engine_of_waiting hne, fun hsetup hoff => resetSteps_engine (.inr ⟨hsetup, hoff⟩)⟩
  · subst hmgmt
    have hengine := abandonedWait_engine (s := s)
    rw [portResetEnd_of_mgmt, reinitEngine, if_pos (by rw [hengine, hinit]), hengine]

end Sys2Proof.Machine
end

section
/-! SUPPORT. The notice rings (R112, R113): the invariant put list by list and unit by unit, and the changes that keep
it without a look at the notice tail writes that wait: no request is forwarded with a mark, and each unit keeps its
tail. -/

namespace Sys2Proof.Machine

variable {s t u : State} {p : Port} {e : InFlight}

/-! ### Lists in which no request is forwarded with a mark (R164, R165) -/

/-- How a list may change apart from the forwarding of a marked request: at most one entry waits still, and an ELIGIBLE
entry was there before, or carries no mark. -/
structure QuietList (l l' : List InFlight) : Prop where
  once : OnceWaiting l → OnceWaiting l'
  marks : OnceWaiting l → ∀ e ∈ l', e.isEligible = true → e ∈ l ∨ e.mark = none

theorem QuietList.refl (l : List InFlight) : QuietList l l := ⟨id, fun _ _ he _ => .inl he⟩

theorem QuietList.of_eq {l l' : List InFlight} (h : l' = l) : QuietList l l' := h ▸ .refl l

theorem QuietList.trans {l l' l'' : List InFlight} (h : QuietList l l') (h' : QuietList l' l'') : QuietList l l'' where
  once := h'.once ∘ h.once
  marks hl e he hel := (h'.marks (h.once hl) e he hel).elim (fun he' => h.marks hl e he' hel) .inr

theorem QuietList.of_sublist {l l' : List InFlight} (h : l'.Sublist l) : QuietList l l' :=
  ⟨(ListPasses.of_sublist h).once, fun _ _ he _ => .inl (h.subset he)⟩

theorem QuietList.append (l : List InFlight) (h : e.isWaiting = false) : QuietList l (l ++ [e]) := by
  refine ⟨(ListPasses.append l h).once, fun _ y hy hel => (List.mem_append.1 hy).imp_right fun hy => ?_⟩
  obtain rfl := List.mem_singleton.1 hy
  simp [InFlight.isWaiting_of_isEligible hel] at h

/-- What becomes of one entry when no marked request is forwarded. -/
theorem EntryPasses.quiet {e e' : InFlight} (h : EntryPasses e e') (hm : e.isHeld = true → e.mark = none)
    (he : e'.isEligible = true) : e' = e ∨ e'.mark = none := by
  cases h with
  | stays => exact .inl rfl
  | leaves h => simp [InFlight.isWaiting_of_isEligible he] at h
  | released h => exact .inr (hm h)
  | unmarked => exact .inr rfl

theorem QuietList.updateFirst {test : InFlight → Bool} {f : InFlight → InFlight} (l : List InFlight)
    (h : ∀ e, test e = true → EntryPasses e (f e)) : QuietList l (updateFirst test f l) := by
  refine ⟨(ListPasses.updateFirst l h).once, fun ⟨_, hm⟩ y hy hel => ?_⟩
  rcases mem_updateFirst hy with hy | ⟨x, hx, rfl⟩
  · exact .inl hy
  · have hxl := List.mem_of_find?_eq_some hx
    exact ((h x (List.find?_some hx)).quiet (hm x hxl) hel).imp_left fun heq => by rwa [heq]

theorem QuietList.map {f : InFlight → InFlight} (l : List InFlight) (h : ∀ e, EntryPasses e (f e)) :
    QuietList l (l.map f) := by
  refine ⟨(ListPasses.map l h).once, fun ⟨_, hm⟩ y hy hel => ?_⟩
  obtain ⟨x, hx, rfl⟩ := List.mem_map.1 hy
  exact ((h x).quiet (hm x hx) hel).imp_left fun heq => by rwa [heq]

/-! ### Notice units (R103, R112) -/

/-- What R112 says of one unit: its fill is at most M, and a record in flight has a free slot. -/
def NoticeUnit.Within (v : NoticeUnit) : Prop :=
  v.slotCount ≤ 1024 ∧ v.fill ≤ v.slotCount ∧ (v.hasRecord = true → v.fill < v.slotCount)

/-- A waiting notice tail write stays within the unit's fill (R113). -/
def TailFits (v : NoticeUnit) (e : InFlight) : Prop :=
  e.mark = some .noticeTail → writesIndex e.request.access (fun i => distance i v.tail ≤ v.fill) = true

theorem TailFits.of_mark {v : NoticeUnit} (h : e.mark ≠ some .noticeTail) : TailFits v e := fun hm => absurd hm h

/-- R112's invariant list by list and unit by unit. -/
theorem noticeSound_iff : NoticeSound s ↔ ∀ p, OnceWaiting (s.inFlight p) ∧ ∀ v, s.units.get p = some v →
    v.Within ∧ ∀ e ∈ s.inFlight p, e.isEligible = true → TailFits v e := by
  refine (and_congr oneWaiting_iff bothPorts_iff).trans (forall_and.symm.trans (forall_congr' fun p => ?_))
  refine and_congr_right fun hw => forall_congr' fun v => imp_congr_right fun _ => ?_
  refine Iff.trans ?_ (and_congr_right' (eligibleMeets_iff (f := TailFits v) hw))
  rw [NoticeUnit.Within, and_assoc, and_assoc]
  rfl

/-- How a unit may change beside its tail: it goes OFF, or its tail stays, it is within its bounds still, and no record
leaves its ring. -/
def UnitStays (v v' : Option NoticeUnit) : Prop :=
  ∀ n', v' = some n' → ∃ n, v = some n ∧ n'.tail = n.tail ∧ (n.Within → n'.Within ∧ n.fill ≤ n'.fill)

theorem UnitStays.refl (v : Option NoticeUnit) : UnitStays v v := fun n h => ⟨n, h, rfl, fun hn => ⟨hn, le_rfl⟩⟩

theorem UnitStays.off (v : Option NoticeUnit) : UnitStays v none := fun _ h => nomatch h

theorem UnitStays.trans {v v' v'' : Option NoticeUnit} (h : UnitStays v v') (h' : UnitStays v' v'') :
    UnitStays v v'' := by
  intro n'' hn''
  obtain ⟨n', hn', htail', hkeep'⟩ := h' n'' hn''
  obtain ⟨n, hn, htail, hkeep⟩ := h n' hn'
  refine ⟨n, hn, htail'.trans htail, fun hw => ?_⟩
  obtain ⟨hw', hfill⟩ := hkeep hw
  obtain ⟨hw'', hfill'⟩ := hkeep' hw'
  exact ⟨hw'', hfill.trans hfill'⟩

/-- A unit takes another phase, with a record in flight only if it had one or has a free slot. -/
theorem UnitStays.phase {v : NoticeUnit} {ph : UnitPhase}
    (h : ({ v with phase := ph } : NoticeUnit).hasRecord = true → v.hasRecord = true ∨ v.fill < v.slotCount) :
    UnitStays (some v) (some { v with phase := ph }) := by
  rintro _ ⟨⟩
  refine ⟨v, rfl, rfl, fun ⟨hcount, hfill, hrec⟩ => ⟨⟨hcount, hfill, fun hr => ?_⟩, le_rfl⟩⟩
  exact (h hr).elim hrec id

/-- A unit's phase is changed in place, and a record in flight stays where it is. -/
theorem UnitStays.map {f : NoticeUnit → NoticeUnit} (v : Option NoticeUnit)
    (h : ∀ n, ∃ ph, f n = { n with phase := ph } ∧ ((f n).hasRecord = true → n.hasRecord = true)) :
    UnitStays v (v.map f) := by
  cases v with
  | none => exact .off _
  | some n =>
    obtain ⟨ph, hf, hrec⟩ := h n
    rw [hf] at hrec
    rw [Option.map_some, hf]
    exact .phase fun hr => .inl (hrec hr)

/-! ### Quiet changes -/

/-- From `s` to `t` no request is forwarded with a mark, and each unit keeps its tail or goes OFF. -/
structure Quiet (s t : State) : Prop where
  lists : ∀ p, QuietList (s.inFlight p) (t.inFlight p)
  units : ∀ p, UnitStays (s.units.get p) (t.units.get p)

/-- A quiet change keeps R112's invariant. -/
theorem NoticeSound.quiet (hs : NoticeSound s) (h : Quiet s t) : NoticeSound t := by
  refine noticeSound_iff.2 fun p => ?_
  obtain ⟨hw, hu⟩ := noticeSound_iff.1 hs p
  refine ⟨(h.lists p).once hw, fun v' hv' => ?_⟩
  obtain ⟨v, hv, htail, hkeep⟩ := h.units p v' hv'
  obtain ⟨hwithin, hfits⟩ := hu v hv
  obtain ⟨hwithin', hfill⟩ := hkeep hwithin
  refine ⟨hwithin', fun e he hel => ?_⟩
  rcases (h.lists p).marks hw e he hel with he' | hm
  · intro hm
    refine writesIndex_mono (fun i hi => ?_) (hfits e he' hel hm)
    rw [decide_eq_true_iff] at hi ⊢
    exact htail ▸ hi.trans hfill
  · exact .of_mark (by simp [hm])

theorem Quiet.of_same (ports : t.ports = s.ports) (units : t.units = s.units) : Quiet s t :=
  ⟨fun p => .of_eq (by simp only [State.inFlight, ports]), fun p => units ▸ .refl _⟩

theorem Quiet.refl (s : State) : Quiet s s := .of_same rfl rfl

theorem Quiet.trans (h : Quiet s t) (h' : Quiet t u) : Quiet s u :=
  ⟨fun p => (h.lists p).trans (h'.lists p), fun p => (h.units p).trans (h'.units p)⟩

theorem Quiet.setInFlight {l : List InFlight} (h : QuietList (s.inFlight p) l) : Quiet s (s.setInFlight p l) := by
  refine ⟨fun q => ?_, fun q => .refl _⟩
  by_cases hq : q = p
  · subst hq
    simpa using h
  · exact .of_eq (State.inFlight_setInFlight_ne s l hq)

theorem Quiet.changeEntry {test : InFlight → Bool} {f : InFlight → InFlight}
    (h : ∀ e, test e = true → EntryPasses e (f e)) : Quiet s (changeEntry p test f s) :=
  .setInFlight (.updateFirst _ h)

theorem Quiet.setUnit {v : Option NoticeUnit} (h : UnitStays (s.units.get p) v) : Quiet s (s.setUnit p v) := by
  refine ⟨fun q => .refl _, fun q => ?_⟩
  by_cases hq : q = p
  · subst hq
    simpa using h
  · simpa [PerPort.get_set_ne _ _ hq] using UnitStays.refl _

theorem Quiet.setRing (r : RingId) (e : RingEntry) : Quiet s (s.setRing r e) := .of_same rfl rfl

theorem Quiet.setHold (p : Port) (h : Option HoldSlot) : Quiet s (s.setHold p h) := .of_same rfl rfl

theorem Quiet.setJob (j : Option NoticeJob) : Quiet s (s.setJob j) := .of_same rfl rfl

theorem Quiet.setEngine (e : Engine) : Quiet s (s.setEngine e) := .of_same rfl rfl

theorem Quiet.setOutstanding (l : List OutEntry) : Quiet s (s.setOutstanding l) := .of_same rfl rfl

/-! ### Shared operations -/

theorem Quiet.raiseRing (r : RingId) (k : RingKind) : Quiet s (raiseRing r k s) := .of_same (by simp) (by simp)

theorem Quiet.raiseDevice (p : Port) (k : DeviceKind) : Quiet s (raiseDevice p k s) := .of_same (by simp) (by simp)

theorem Quiet.chargeViolation (r : RingId) (k : ViolationKind) (p : Port) (addr : Word) :
    Quiet s (chargeViolation r k p addr s) := .of_same (by simp) (by simp)

theorem Quiet.releaseHeld (p : Port) : Quiet s (releaseHeld p s) :=
  (Quiet.setHold p none).trans (.changeEntry fun _ h => .released h)

theorem Quiet.refuseHeld (p : Port) : Quiet s (refuseHeld p s) :=
  (Quiet.setHold p none).trans (.changeEntry fun _ _ => .leaves rfl)

theorem Quiet.releaseHeldOn (r : RingId) : Quiet s (releaseHeldOn r s) := by
  unfold Machine.releaseHeldOn
  split
  · exact .refl s
  · exact .releaseHeld _

theorem Quiet.retestHeld (r : RingId) : Quiet s (retestHeld r s) := by
  unfold Machine.retestHeld
  split
  · split
    · split
      · exact .releaseHeld _
      · exact .refl s
    · exact .refl s
  · exact .refl s

theorem Quiet.unstallAll : Quiet s (unstallAll s) :=
  (Quiet.setInFlight (.map _ EntryPasses.unstall)).trans (.setInFlight (.map _ EntryPasses.unstall))

theorem Quiet.unitOff (p : Port) : Quiet s (unitOff p s) :=
  (Quiet.setUnit (.off _)).trans (.setInFlight (.map _ EntryPasses.dropNoticeMark))

theorem Quiet.mapRecords (f : RecordInFlight → RecordInFlight) : Quiet s (mapRecords f s) := by
  have hmap (v : NoticeUnit) : ∃ ph, v.mapRecord f = { v with phase := ph } ∧
      ((v.mapRecord f).hasRecord = true → v.hasRecord = true) := by
    unfold NoticeUnit.mapRecord
    split
    · rename_i hph
      exact ⟨_, rfl, fun _ => by simp [NoticeUnit.hasRecord, hph]⟩
    · exact ⟨v.phase, rfl, id⟩
  refine ⟨fun p => .of_eq (mapRecords_inFlight ..), fun p => ?_⟩
  cases p <;> exact .map _ hmap

theorem Quiet.forgetNotices (r : RingId) : Quiet s (forgetNotices r s) :=
  (Quiet.of_same (by simp) (by simp)).trans (.mapRecords _)

/-- A ring's body changes and the write held on it is released (R58, R82). -/
theorem Quiet.leaveTracking (r : RingId) (b : RingBody) :
    Quiet s (Machine.releaseHeldOn r (Machine.dropAppliedMarks r (s.setBody r b))) :=
  (Quiet.setRing r _).trans ((Quiet.setOutstanding _).trans (.releaseHeldOn r))

theorem Quiet.faultEntry (r : RingId) (cause : FaultCause) : Quiet s (faultEntry r cause s) := by
  unfold Machine.faultEntry
  split
  · split
    · exact (Quiet.leaveTracking r _).trans (.raiseRing ..)
    · exact .refl s
  · exact .refl s

theorem Quiet.settleWait (h : Quiet s t) (w : EngineWait) (status : CommandStatus) (words : Params) :
    Quiet s (settleWait w status words t) := h.trans (.of_same (by simp) (by simp))

theorem Quiet.report (h : Quiet s t) (status : CommandStatus) (words : Params) : Quiet s (report status words t) :=
  h.trans (.of_same (by simp) (by simp))

theorem Quiet.finish (h : Quiet s t) (status : CommandStatus) : Quiet s (finish status t) := h.report ..

end Sys2Proof.Machine
end

section
/-! SUPPORT. The engine's commands (08), memory's responses (R174, R175) and the notice writer (06) leave the notice
rings within their bounds: a record is taken where a slot is free and its completion moves the head by one, and
SETUP_NOTICE starts a ring afresh with no marked tail write waiting (R106, R111, R112). -/

namespace Sys2Proof.Machine

variable {s t u : State} {p : Port}

/-! ### What a command's checks lead to (R137, R138) -/

/-- A command is performed, or its row is no happening. -/
theorem performing_ind {P : State → Prop} {k : CommandCode} {act : SlotWords → State → State} (idle : P s)
    (h : ∀ w, P (act w s)) : P (performing k act s) := by
  unfold performing
  split
  · split
    · exact h _
    · exact idle
  · exact idle

/-- A ring command fails at once, or acts on the ring it names. -/
theorem ringCommand_ind {P : State → Prop} {allowed : RingEntry → Bool} {act : RingId → State → State} {w : SlotWords}
    (fails : ∀ status, P (finish status s)) (h : ∀ r, P (act r s)) : P (ringCommand allowed act w s) := by
  unfold ringCommand
  split
  · exact fails _
  · split
    · exact h _
    · exact fails _

/-- A ring command acts on the body of its ring. -/
theorem onBody_ind {P : State → Prop} {act : RingBody → State → State} {r : RingId}
    (fails : ∀ status, P (finish status s)) (h : ∀ b, P (act b s)) : P (onBody act r s) := by
  unfold onBody
  split
  · exact h _
  · exact fails _

/-- A unit command fails at once, or acts on the unit it names. -/
theorem unitCommand_ind {P : State → Prop} {allowed : Option NoticeUnit → Bool} {act : Port → State → State}
    {w : SlotWords} (fails : ∀ status, P (finish status s)) (h : ∀ p, P (act p s)) :
    P (unitCommand allowed act w s) := by
  unfold unitCommand
  split
  · exact fails _
  · split
    · exact h _
    · exact fails _

theorem Quiet.fails (status : CommandStatus) : Quiet s (Machine.finish status s) := (Quiet.refl s).finish status

theorem Quiet.performRing {k : CommandCode} {allowed : RingEntry → Bool} {act : SlotWords → RingId → State → State}
    (h : ∀ w r, Quiet s (act w r s)) : Quiet s (performing k (fun w => ringCommand allowed (act w) w) s) :=
  performing_ind (.refl s) fun w => ringCommand_ind .fails (h w)

theorem Quiet.performBody {k : CommandCode} {allowed : RingEntry → Bool}
    {act : SlotWords → RingId → RingBody → State → State} (h : ∀ w r b, Quiet s (act w r b s)) :
    Quiet s (performing k (fun w => ringCommand allowed (fun r => onBody (act w r) r) w) s) :=
  .performRing fun w r => onBody_ind .fails (h w r)

/-! ### Ring commands (R140 to R155, R159) -/

theorem Quiet.execBadCommand (h : execBadCommand s = .next t) : Quiet s t := by
  obtain rfl := Host.Outcome.next.inj h
  split
  · split
    · exact .fails _
    · exact .refl s
  · exact .refl s

theorem Quiet.execDefineRing (h : execDefineRing s = .next t) : Quiet s t := by
  obtain rfl := Host.Outcome.next.inj h
  refine .performRing fun w r => ?_
  split
  · exact .fails _
  · split
    · exact ((Quiet.forgetNotices r).trans (.setRing r _)).finish _
    · exact .fails _

theorem Quiet.execReleaseRing (h : execReleaseRing s = .next t) : Quiet s t := by
  obtain rfl := Host.Outcome.next.inj h
  exact .performRing fun _ r => ((Quiet.forgetNotices r).trans (.setRing r _)).finish _

theorem Quiet.beginSeeding (r : RingId) (b : RingBody) (purpose : SeedPurpose) :
    Quiet s (beginSeeding r b purpose s) :=
  .of_same (drainTest_ports ..) (drainTest_units ..)

theorem Quiet.execArmRing (h : execArmRing s = .next t) : Quiet s t := by
  obtain rfl := Host.Outcome.next.inj h
  exact .performBody fun _ r b => .beginSeeding r b _

theorem Quiet.execDisarmRing (h : execDisarmRing s = .next t) : Quiet s t := by
  obtain rfl := Host.Outcome.next.inj h
  exact .performBody fun _ r b => (Quiet.leaveTracking r _).finish _

theorem Quiet.execClearFault (h : execClearFault s = .next t) : Quiet s t := by
  obtain rfl := Host.Outcome.next.inj h
  refine .performBody fun _ r b => ?_
  split
  · exact .beginSeeding r b _
  · exact .refl s

theorem Quiet.execSetMarks (h : execSetMarks s = .next t) : Quiet s t := by
  obtain rfl := Host.Outcome.next.inj h
  refine .performBody fun _ r b => ?_
  split
  · exact .fails _
  · exact (Quiet.setRing r _).finish _

theorem Quiet.settleHeldByGuard (r : RingId) (g : GuardMode) : Quiet s (settleHeldByGuard r g s) := by
  unfold Machine.settleHeldByGuard
  split
  · exact .refl s
  · split
    · exact .refl s
    · exact (Quiet.releaseHeld _).trans (.chargeViolation ..)
    · exact (Quiet.refuseHeld _).trans (.chargeViolation ..)

theorem Quiet.execSetGuard (h : execSetGuard s = .next t) : Quiet s t := by
  obtain rfl := Host.Outcome.next.inj h
  refine .performBody fun _ r b => ?_
  split
  · exact .fails _
  · exact ((Quiet.setRing r _).trans (.settleHeldByGuard r _)).finish _

theorem Quiet.moveNotify (r : RingId) (b : RingBody) (p : Port) (m : KindSet) : Quiet s (moveNotify r b p m s) := by
  unfold Machine.moveNotify
  dsimp only
  split
  · exact .of_same (by simp) (by simp)
  · split <;> exact .of_same (by simp) (by simp)

theorem Quiet.execSetNotify (h : execSetNotify s = .next t) : Quiet s t := by
  obtain rfl := Host.Outcome.next.inj h
  refine .performBody fun _ r b => ?_
  split
  · exact .fails _
  · exact (Quiet.moveNotify r b _ _).finish _

theorem Quiet.execResetCounts (h : execResetCounts s = .next t) : Quiet s t := by
  obtain rfl := Host.Outcome.next.inj h
  exact .performRing fun _ r => (Quiet.setRing r _).finish _

theorem Quiet.execQueryRing (h : execQueryRing s = .next t) : Quiet s t := by
  obtain rfl := Host.Outcome.next.inj h
  refine .performRing fun _ r => ?_
  split
  · exact .fails _
  · exact (Quiet.refl s).report ..
  · exact (Quiet.refl s).report ..

theorem Quiet.releaseAny (p : Port) : Quiet s (releaseAny p s) := by
  unfold Machine.releaseAny
  split
  · exact .releaseHeld p
  · exact .refl s

theorem Quiet.clearTable : Quiet s (clearTable s) := by
  have hrelease : Quiet s (Machine.releaseAny .b (Machine.releaseAny .a s)) :=
    (Quiet.releaseAny .a).trans (.releaseAny .b)
  have hforget := (hrelease.trans (.setOutstanding
    ((Machine.releaseAny .b (Machine.releaseAny .a s)).outstanding.map OutEntry.dropAnyApplied))).trans
    (.mapRecords RecordInFlight.clearedForAll)
  unfold Machine.clearTable
  exact hforget.trans (.of_same (by simp) (by simp))

theorem Quiet.execResetTable (h : execResetTable s = .next t) : Quiet s t := by
  obtain rfl := Host.Outcome.next.inj h
  exact performing_ind (.refl s) fun _ => Quiet.clearTable.finish _

/-! ### Unit commands (R106, R108, R156 to R158) -/

theorem Quiet.closeUnit (p : Port) : Quiet s (closeUnit p s) := by
  unfold Machine.closeUnit
  split
  · exact .refl s
  · rename_i n hn
    split
    · exact (Quiet.unitOff p).report ..
    · exact (Quiet.unitOff p).report ..
    · rename_i rec _ hph
      refine (Quiet.setUnit (hn ▸ .phase fun _ => .inl ?_)).trans (.of_same rfl rfl)
      simp [NoticeUnit.hasRecord, hph]
    · exact .refl s

theorem Quiet.execNoticeOff (h : execNoticeOff s = .next t) : Quiet s t := by
  obtain rfl := Host.Outcome.next.inj h
  exact performing_ind (.refl s) fun _ => unitCommand_ind .fails Quiet.closeUnit

/-- SETUP_NOTICE's parameters describe a unit that holds nothing (R105, R106). -/
theorem unitOf_within {w : Params} (h : GeometryOk w) : (unitOf w).Within := by
  obtain ⟨-, ⟨-, hexp⟩, -⟩ := h
  have hcount : 2 ^ w.w3.toNat ≤ 2 ^ 10 := Nat.pow_le_pow_right (by decide) hexp
  have hfill : (unitOf w).fill = 0 := distance_self 0
  exact ⟨hcount, hfill ▸ Nat.zero_le _, fun hr => nomatch hr⟩

/-- The setup begins with no marked tail write waiting (R106). -/
theorem NoticeSound.beginSetup (hs : NoticeSound s) {n : NoticeUnit} (hn : n.Within) :
    NoticeSound (beginSetup p n s) := by
  have hdrop : Quiet s (dropNoticeMarks p s) := .setInFlight (.map _ EntryPasses.dropNoticeMark)
  refine noticeSound_iff.2 fun q => ?_
  obtain ⟨hw, hu⟩ := noticeSound_iff.1 hs q
  refine ⟨(hdrop.lists q).once hw, fun v hv => ?_⟩
  have hunits : (Machine.beginSetup p n s).units = s.units.set p (some n) := rfl
  rw [hunits] at hv
  by_cases hq : q = p
  · subst hq
    obtain rfl : n = v := by simpa using hv
    refine ⟨hn, fun e he hel => .of_mark fun hm => ?_⟩
    have hl : (Machine.beginSetup q n s).inFlight q = (s.inFlight q).map InFlight.dropNoticeMark :=
      State.inFlight_setInFlight_self ..
    rw [hl] at he
    obtain ⟨y, -, rfl⟩ := List.mem_map.1 he
    unfold InFlight.dropNoticeMark at hel hm
    split at hm <;> simp_all
  · rw [PerPort.get_set_ne _ _ hq] at hv
    have hl : (Machine.beginSetup p n s).inFlight q = s.inFlight q := State.inFlight_setInFlight_ne _ _ hq
    rw [hl]
    exact hu v hv

theorem NoticeSound.execSetupNotice (hs : NoticeSound s) (h : execSetupNotice s = .next t) : NoticeSound t := by
  obtain rfl := Host.Outcome.next.inj h
  have hfails (status : CommandStatus) : NoticeSound (finish status s) := hs.quiet (.fails status)
  refine performing_ind hs fun w => unitCommand_ind hfails fun p => ?_
  rw [parseUnit_eq]
  split
  · exact hfails _
  · rename_i n hn
    split
    · split at hn
      · obtain rfl := Option.some.inj hn
        exact hs.beginSetup (unitOf_within ‹_›)
      · cases hn
    · exact hfails _

/-! ### Memory's responses to ports and to the engine (R41, R126 to R134, R175) -/

theorem Quiet.answered {isIt : Origin → Bool} {act : Origin → State → State} (h : ∀ o u, Quiet u (act o u)) :
    Quiet s (answered isIt act s) := by
  unfold Machine.answered
  split
  · exact .refl s
  · split
    · exact (Quiet.setOutstanding _).trans (h _ _)
    · exact .refl s

theorem Quiet.answerPort (p : Port) (serial : Nat) (ring : Option RingId) (applied : Bool) (status : MemStatus)
    (data : List Word) : Quiet s (answerPort p serial ring applied status data s) := by
  unfold Machine.answerPort
  split
  · exact .refl s
  · rename_i e _
    have hdone : Quiet s (Machine.changeEntry p (fun e => e.serial == serial)
        (fun e' => { e' with stage := .done (busStatus status) (responseData e.request.access data) }) s) :=
      .changeEntry fun _ _ => .leaves rfl
    dsimp only
    split
    · split
      · exact hdone.trans (.faultEntry ..)
      · exact hdone
    · exact hdone

theorem Quiet.execMemoryResponse {status : MemStatus} {data : List Word}
    (h : execMemoryResponse status data s = .next t) : Quiet s t := by
  obtain rfl := Host.Outcome.next.inj h
  refine .answered fun o u => ?_
  split
  · exact .answerPort ..
  · exact .refl u

theorem Quiet.execDiscardedResponse (h : execDiscardedResponse s = .next t) : Quiet s t := by
  obtain rfl := Host.Outcome.next.inj h
  unfold dropResponse
  split
  · exact .refl s
  · split
    · exact .of_same rfl rfl
    · exact .refl s

theorem Quiet.fillSeed (r : RingId) (w : IndexWord) (seed : Seed) : Quiet s (fillSeed r w seed s) := by
  unfold Machine.fillSeed
  split
  · split
    · split
      · dsimp only
        split
        · exact ((Quiet.setRing r _).trans .unstallAll).settleWait ..
        · exact .of_same rfl rfl
      · exact .refl s
    · exact .refl s
  · exact .refl s

theorem Quiet.execSeedResponse {status : MemStatus} {word : Word} (h : execSeedResponse status word s = .next t) :
    Quiet s t := by
  obtain rfl := Host.Outcome.next.inj h
  refine .answered fun o u => ?_
  split
  · exact .fillSeed ..
  · exact .refl u

theorem Quiet.haltEngine (info : HaltInfo) : Quiet s (haltEngine info s) := .of_same (by simp) (by simp)

theorem Quiet.execFetchResponse {status : MemStatus} {words : SlotWords}
    (h : execFetchResponse status words s = .next t) : Quiet s t := by
  obtain rfl := Host.Outcome.next.inj h
  refine .answered fun _ u => ?_
  unfold fetched
  split
  · split
    · exact .of_same rfl rfl
    · exact .haltEngine _
  · exact .refl u

theorem Quiet.execReportBurstResponse {status : MemStatus} (h : execReportBurstResponse status s = .next t) :
    Quiet s t := by
  obtain rfl := Host.Outcome.next.inj h
  refine .answered fun _ u => ?_
  unfold reportBurstAnswered
  split
  · split
    · exact .of_same rfl rfl
    · exact .haltEngine _
  · exact .refl u

theorem Quiet.execReportTailResponse {status : MemStatus} (h : execReportTailResponse status s = .next t) :
    Quiet s t := by
  obtain rfl := Host.Outcome.next.inj h
  refine .answered fun _ u => ?_
  unfold reportTailAnswered
  split
  · split
    · split
      · exact .of_same rfl rfl
      · exact .haltEngine _
    · exact .refl u
  · exact .refl u

/-- A response that changes nothing but the outstanding list (R126, R133, R134). -/
theorem Quiet.answered_only (isIt : Origin → Bool) : Quiet s (Machine.answered isIt (fun _ t => t) s) :=
  .answered fun _ u => .refl u

/-! ### The notice writer (R95, R107 to R111, R116) -/

theorem Quiet.execSetupJob (h : execSetupJob s = .next t) : Quiet s t := by
  obtain rfl := Host.Outcome.next.inj h
  unfold serveSetup
  split
  · split
    · exact .of_same rfl rfl
    · exact .refl s
  · exact .refl s

theorem Quiet.setupAnswered (p : Port) (w : NoticeWrite) (status : MemStatus) :
    Quiet s (setupAnswered p w status s) := by
  unfold Machine.setupAnswered
  split
  · exact .refl s
  · rename_i n hn
    split
    · exact ((Quiet.setJob none).trans (.unitOff p)).settleWait ..
    · exact .of_same rfl rfl
    · have hready : Quiet s (s.setUnit p (some { n with phase := .ready none false })) :=
        .setUnit (hn ▸ .phase fun hr => nomatch hr)
      exact (hready.trans (.setJob none)).settleWait ..
    · exact .refl s

theorem Quiet.execSetupWriteResponse {status : MemStatus} (h : execSetupWriteResponse status s = .next t) :
    Quiet s t := by
  obtain rfl := Host.Outcome.next.inj h
  refine .answered fun o u => ?_
  split
  · exact .setupAnswered ..
  · exact .refl u

/-- A unit with a record job is READY, not closing, and has a free slot (R109, R112). -/
theorem jobOf_record (h : jobOf s p = some .record) :
    ∃ n, s.units.get p = some n ∧ n.phase = .ready none false ∧ n.fill < n.slotCount := by
  unfold jobOf at h
  split at h
  · cases h
  · rename_i n hn
    split at h
    · cases h
    · split at h
      · exact ⟨n, hn, ‹_›, (‹_ ∧ _› : _ ∧ _).2⟩
      · cases h
    · cases h
    · cases h

theorem jobOf_of_nextJob {k : JobKind} (h : nextJob s = some (p, k)) : jobOf s p = some k := by
  unfold nextJob at h
  split at h
  · cases h
  · dsimp only at h
    split at h
    · rename_i hk
      obtain ⟨rfl, rfl⟩ := Prod.mk.inj (Option.some.inj h)
      exact hk
    · obtain ⟨k', hk, heq⟩ := Option.map_eq_some_iff.1 h
      obtain ⟨rfl, rfl⟩ := Prod.mk.inj heq
      exact hk

theorem Quiet.takeRecord {n : NoticeUnit} (hn : s.units.get p = some n) (hfree : n.fill < n.slotCount) (closing : Bool)
    (src : Source) : Quiet s (takeRecord p n closing src s) := by
  have hempty : Quiet s (dequeue src p (setPendingSet src p 0 s)) := .of_same (by simp) (by simp)
  refine hempty.trans ((Quiet.setUnit ?_).trans (.of_same rfl rfl))
  rw [dequeue_units, setPendingSet_units, hn]
  exact .phase fun _ => .inr hfree

theorem Quiet.execRecordTaking (h : execRecordTaking s = .next t) : Quiet s t := by
  obtain rfl := Host.Outcome.next.inj h
  unfold serveRecord
  split
  · rename_i p hjob
    obtain ⟨n, hn, -, hfree⟩ := jobOf_record (jobOf_of_nextJob hjob)
    rw [hn]
    split
    · rename_i heq _
      obtain rfl := Option.some.inj heq
      exact .takeRecord hn hfree ..
    · exact .refl s
  · exact .refl s

theorem Quiet.returnKinds (p : Port) (rec : RecordInFlight) : Quiet s (returnKinds p rec s) :=
  .of_same (by rw [returnKinds_frame]) (by rw [returnKinds_frame])

theorem Quiet.failRecord {n : NoticeUnit} (hn : s.units.get p = some n) (rec : RecordInFlight) (closing : Bool)
    (f : FailingWrite) : Quiet s (failRecord p n rec closing f s) := by
  have hhalted : Quiet s (s.setUnit p (some { n with phase := .halted f })) :=
    .setUnit (hn ▸ .phase fun hr => nomatch hr)
  have hback := (hhalted.trans (.setJob none)).trans (.returnKinds p rec)
  unfold Machine.failRecord
  dsimp only
  split
  · exact (hback.trans (.unitOff p)).settleWait ..
  · exact hback

/-- The completion of a record moves the head by one into a free slot (R111, R112). -/
theorem UnitStays.complete {n : NoticeUnit} (hrec : n.hasRecord = true) (closing : Bool) :
    UnitStays (some n)
      (some { n with head := n.head + 1, seq := n.seq + 1, phase := .ready none closing }) := by
  rintro _ ⟨⟩
  refine ⟨n, rfl, rfl, fun ⟨hcount, hfill, hfree⟩ => ?_⟩
  have hlt := hfree hrec
  have hnext : distance (n.head + 1) n.tail = n.fill + 1 := by
    have hone : distance (n.head + 1) n.head = 1 := by simp [distance]
    have hroom : distance (n.head + 1) n.head + n.fill < 65536 := by omega
    rw [distance_advance_head hroom, hone, Nat.add_comm]
    rfl
  refine ⟨⟨hcount, ?_, fun hr => nomatch hr⟩, ?_⟩
  · exact hnext.trans_le hlt
  · exact (Nat.le_succ _).trans hnext.ge

theorem Quiet.completeRecord {n : NoticeUnit} (hn : s.units.get p = some n) (hrec : n.hasRecord = true)
    (closing : Bool) : Quiet s (completeRecord p n closing s) := by
  have hnext : Quiet s (s.setUnit p (some
      { n with head := n.head + 1, seq := n.seq + 1, phase := .ready none closing })) :=
    .setUnit (hn ▸ .complete hrec closing)
  have hset := hnext.trans (.setJob none)
  unfold Machine.completeRecord
  dsimp only
  split
  · exact (hset.trans (.unitOff p)).settleWait ..
  · exact hset

theorem Quiet.recordAnswered (p : Port) (w : NoticeWrite) (status : MemStatus) :
    Quiet s (recordAnswered p w status s) := by
  unfold Machine.recordAnswered
  split
  · exact .refl s
  · rename_i n hn
    split
    · rename_i rec closing hph
      have hrec : n.hasRecord = true := by simp [NoticeUnit.hasRecord, hph]
      split
      · exact (Quiet.setUnit (hn ▸ .phase fun _ => .inl hrec)).trans (.of_same rfl rfl)
      · exact .failRecord hn ..
      · exact .completeRecord hn hrec _
      · exact .failRecord hn ..
      · exact .refl s
    · exact .refl s

theorem Quiet.execRecordBurstResponse {status : MemStatus} (h : execRecordBurstResponse status s = .next t) :
    Quiet s t := by
  obtain rfl := Host.Outcome.next.inj h
  refine .answered fun o u => ?_
  split
  · exact .recordAnswered ..
  · exact .refl u

theorem Quiet.execNoticeHeadWriteResponse {status : MemStatus} (h : execNoticeHeadWriteResponse status s = .next t) :
    Quiet s t := by
  obtain rfl := Host.Outcome.next.inj h
  refine .answered fun o u => ?_
  split
  · exact .recordAnswered ..
  · exact .refl u

end Sys2Proof.Machine
end

section
/-! SUPPORT. Presentations (R164 to R169) and grants (R172, R173) leave the notice rings within their bounds: a marked
notice tail write is forwarded within the fill and moves the tail at its grant (R113, R114). -/

namespace Sys2Proof.Machine

variable {s t u : State} {p : Port} {e : InFlight}

/-! ### What a presentation leads to (R165) -/

/-- Request `e` of port `p` has passed the checks that a mark stands for (R25 to R32, R113, R123). -/
def CheckedMark (s : State) (p : Port) (e : InFlight) : ApplyMark → Prop
  | .ringIndex r w => ∃ b head tail x, (s.ring r).body = some b ∧ b.phase = .tracking head tail ∧
      singleWrite e.request.access = some x ∧ indexCheck b.desc head tail w p x = none
  | .noticeTail => ∃ n x, s.units.get p = some n ∧ singleWrite e.request.access = some x ∧ noticeTailValid n x = true
  | .commandHead => p = s.mgmt ∧ ∃ x, singleWrite e.request.access = some x ∧ headWriteValid s x = true

/-- What the presentation of `e` leads to: it is forwarded with a mark whose checks it has passed, or no request is
forwarded with a mark. -/
inductive PresentedTo (s : State) (p : Port) (e : InFlight) : State → Prop
  | quiet {t : State} (h : Quiet s t) : PresentedTo s p e t
  | marked (cls : AccessClass) {m : ApplyMark} (h : CheckedMark s p e m) :
      PresentedTo s p e (forwardPresented p cls (some m) s)

/-- The presented entry takes a stage without a mark. -/
theorem Quiet.changePresented (hw : NoneWaiting s p) {f : InFlight → InFlight} (hf : ∀ e, (f e).mark = none) :
    Quiet s (changePresented p f s) := by
  refine .setInFlight ⟨fun _ => .updateFirst hw fun e _ => hf e, fun _ y hy _ => ?_⟩
  exact (mem_updateFirst hy).imp_right fun ⟨x, _, heq⟩ => heq ▸ hf x

theorem Quiet.refusePresented (cls : Option AccessClass) : Quiet s (refusePresented p cls s) :=
  .changeEntry fun _ _ => .leaves rfl

theorem Quiet.stallPresented (hw : NoneWaiting s p) (cls : AccessClass) : Quiet s (stallPresented p cls s) :=
  .changePresented hw fun _ => rfl

theorem Quiet.forwardPresented (hw : NoneWaiting s p) (cls : AccessClass) : Quiet s (forwardPresented p cls none s) :=
  .changePresented hw fun _ => rfl

theorem Quiet.holdPresented (hw : NoneWaiting s p) (cls : AccessClass) (h : HoldSlot) :
    Quiet s (holdPresented p cls h s) :=
  have hw' : NoneWaiting (s.setHold p (some h)) p := hw
  (Quiet.setHold p (some h)).trans (.changePresented hw' fun _ => rfl)

/-- A counted violation whose request is refused. -/
theorem Quiet.chargeRefuse (cls : Option AccessClass) (r : RingId) (k : ViolationKind) (addr : Word) :
    Quiet s (Machine.refusePresented p cls (Machine.chargeViolation r k p addr s)) :=
  (Quiet.chargeViolation ..).trans (.refusePresented _)

/-- A counted violation whose request is forwarded. -/
theorem Quiet.chargeForward (hw : NoneWaiting s p) (cls : AccessClass) (r : RingId) (k : ViolationKind) (addr : Word) :
    Quiet s (Machine.forwardPresented p cls none (Machine.chargeViolation r k p addr s)) :=
  (Quiet.chargeViolation ..).trans (.forwardPresented (hw.of_ports (by simp)) _)

theorem PresentedTo.presentIndexWrite (hw : NoneWaiting s p) {r : RingId} {b : RingBody} {head tail : Index}
    (hb : (s.ring r).body = some b) (hph : b.phase = .tracking head tail) (w : IndexWord) (addr : Word) {x : WriteWord}
    (hx : singleWrite e.request.access = some x) :
    PresentedTo s p e (presentIndexWrite p r w b.desc head tail addr x s) := by
  unfold Machine.presentIndexWrite
  split
  · exact .marked _ ⟨b, head, tail, x, hb, hph, hx, ‹_›⟩
  · split
    · exact .quiet ((Quiet.chargeViolation ..).trans ((Quiet.faultEntry ..).trans
        (.forwardPresented ((hw.of_ports (chargeViolation_ports ..)).faultEntry _ _) _)))
    · exact .quiet (.chargeRefuse ..)
    · exact .quiet (.chargeRefuse ..)

theorem PresentedTo.presentIndex (hw : NoneWaiting s p) (r : RingId) (w : IndexWord) :
    PresentedTo s p e (presentIndex p r w e.request.access s) := by
  unfold Machine.presentIndex
  split
  · exact .quiet (.forwardPresented hw _)
  · split
    · exact .quiet (.stallPresented hw _)
    · split
      · exact .presentIndexWrite hw ‹_› ‹_› _ _ ‹_›
      · exact .quiet (.forwardPresented hw _)
    · exact .quiet (.forwardPresented hw _)
    · exact .quiet (.forwardPresented hw _)

theorem Quiet.presentDataViolation (hw : NoneWaiting s p) (r : RingId) (d : Descriptor) (k : ViolationKind)
    (x : Access) : Quiet s (presentDataViolation p r d k x s) := by
  unfold Machine.presentDataViolation
  split
  · exact .chargeForward hw ..
  · exact .chargeRefuse ..
  · split
    · unfold presentCandidate
      split
      · exact .holdPresented hw ..
      · exact .chargeRefuse ..
    · exact .chargeRefuse ..

theorem Quiet.presentData (hw : NoneWaiting s p) (r : RingId) (x : Access) : Quiet s (presentData p r x s) := by
  unfold Machine.presentData
  split
  · exact .forwardPresented hw _
  · split
    · exact .stallPresented hw _
    · split
      · exact .forwardPresented hw _
      · exact .presentDataViolation hw ..
    · exact .forwardPresented hw _
    · exact .forwardPresented hw _

theorem Quiet.refuseWindowWrite (cls : AccessClass) (x : Access) : Quiet s (refuseWindowWrite p cls x s) := by
  unfold Machine.refuseWindowWrite
  dsimp only
  split
  · exact (Quiet.raiseDevice ..).trans (.refusePresented _)
  · exact .refusePresented _

theorem PresentedTo.presentWindow (hw : NoneWaiting s p) (cls : AccessClass) :
    PresentedTo s p e (presentWindow p cls e.request.access s) := by
  unfold Machine.presentWindow
  split
  · exact .quiet (.forwardPresented hw _)
  · split
    · exact .quiet (.refusePresented _)
    · rename_i hp
      split
      · exact .quiet (.forwardPresented hw _)
      · split
        · rename_i x hx
          split
          · rename_i hvalid
            exact .marked _ ⟨not_not.1 hp, x, hx, (Bool.and_eq_true_iff.1 hvalid).2⟩
          · exact .quiet (.refuseWindowWrite ..)
        · exact .quiet (.refuseWindowWrite ..)

theorem PresentedTo.presentNotice (hw : NoneWaiting s p) (cls : AccessClass) :
    PresentedTo s p e (presentNotice p cls e.request.access s) := by
  unfold Machine.presentNotice
  split
  · exact .quiet (.forwardPresented hw _)
  · split
    · split
      · rename_i n x hn hx
        split
        · exact .marked _ ⟨n, x, hn, hx, ‹_›⟩
        · exact .quiet (.refusePresented _)
      · exact .quiet (.refusePresented _)
    · exact .quiet (.refusePresented _)

theorem Quiet.presentCrossing (hw : NoneWaiting s p) (x : Access) : Quiet s (presentCrossing p x s) := by
  unfold Machine.presentCrossing
  split
  · exact .stallPresented hw _
  · split
    · exact .refuseWindowWrite ..
    · split
      · exact .forwardPresented hw _
      · dsimp only
        split
        · exact .chargeForward hw ..
        · exact .chargeRefuse ..

theorem PresentedTo.presentClassified (hw : NoneWaiting s p) (e : InFlight) :
    PresentedTo s p e (presentClassified p e.request.access s) := by
  unfold Machine.presentClassified
  split
  · exact .quiet (.forwardPresented hw _)
  · exact .quiet (.presentData hw ..)
  · exact .presentIndex hw ..
  · exact .presentIndex hw ..
  · exact .presentWindow hw _
  · exact .presentWindow hw _
  · exact .presentNotice hw _
  · exact .presentNotice hw _
  · exact .presentNotice hw _
  · exact .quiet (.presentCrossing hw _)

/-- A presentation changes nothing, or presents the port's oldest QUEUED request while none of its requests waits
(R164). -/
theorem present_cases (p : Port) (s : State) : present p s = s ∨
    ∃ e, oldestQueued s p = some e ∧ NoneWaiting s p ∧ PresentedTo s p e (present p s) := by
  unfold present
  split
  · rename_i hm
    split
    · exact .inl rfl
    · rename_i e he
      refine .inr ⟨e, he, noneWaiting_of_mayPresent hm, ?_⟩
      split
      · exact .quiet (.refusePresented _)
      · exact .presentClassified (noneWaiting_of_mayPresent hm) e
  · exact .inl rfl

/-! ### Notice tail writes presented and granted (R113, R114) -/

/-- A notice tail write that passes its checks stays within the fill (R113). -/
theorem tailFits_of_valid {n : NoticeUnit} {x : WriteWord} (hx : singleWrite e.request.access = some x)
    (hv : noticeTailValid n x = true) : TailFits n e := by
  intro _
  rw [writesIndex_of hx]
  exact (Bool.and_eq_true_iff.1 hv).2

theorem NoticeSound.forwardMarked (hs : NoticeSound s) (hw : NoneWaiting s p) (hq : oldestQueued s p = some e)
    (cls : AccessClass) {m : ApplyMark} (hm : CheckedMark s p e m) :
    NoticeSound (forwardPresented p cls (some m) s) := by
  refine noticeSound_iff.2 fun q => ?_
  obtain ⟨ho, hu⟩ := noticeSound_iff.1 hs q
  have hunits : (forwardPresented p cls (some m) s).units = s.units := rfl
  rw [hunits]
  by_cases hqp : q = p
  · subst hqp
    rw [forwardPresented, changePresented, changeEntry, State.inFlight_setInFlight_self]
    refine ⟨.updateFirst hw fun _ h => by simp [InFlight.isHeld] at h, fun v hv => ⟨(hu v hv).1, fun y hy hel => ?_⟩⟩
    rcases mem_updateFirst hy with hy | ⟨x, hx, rfl⟩
    · exact (hu v hv).2 y hy hel
    · obtain rfl : e = x := Option.some.inj (hq.symm.trans hx)
      cases m with
      | noticeTail =>
        obtain ⟨n, x, hn, hx, hvalid⟩ := hm
        obtain rfl : n = v := Option.some.inj (hn.symm.trans hv)
        exact tailFits_of_valid hx hvalid
      | ringIndex r w => exact .of_mark (by simp)
      | commandHead => exact .of_mark (by simp)
  · have hl : (forwardPresented p cls (some m) s).inFlight q = s.inFlight q :=
      State.inFlight_setInFlight_ne _ _ hqp
    rw [hl]
    exact ⟨ho, hu⟩

theorem NoticeSound.execPresentation (hs : NoticeSound s) (h : execPresentation p s = .next t) : NoticeSound t := by
  obtain rfl := Host.Outcome.next.inj h
  rcases present_cases p s with hsame | ⟨e, hq, hw, hto⟩
  · rwa [hsame]
  · generalize Machine.present p s = t at hto
    cases hto with
    | quiet hquiet => exact hs.quiet hquiet
    | marked cls hm => exact hs.forwardMarked hw hq cls hm

/-- An applied tail write moves the tail within the fill, while no other request of the port waits (R114). -/
theorem NoticeSound.applyNoticeTail (hs : NoticeSound s) (gone : ∀ y ∈ s.inFlight p, y.isEligible = false) {v : Index}
    (hv : ∀ n, s.units.get p = some n → distance v n.tail ≤ n.fill) : NoticeSound (applyNoticeTail p v s) := by
  unfold Machine.applyNoticeTail
  split
  · rename_i n hn
    refine noticeSound_iff.2 fun q => ?_
    obtain ⟨ho, hu⟩ := noticeSound_iff.1 hs q
    refine ⟨ho, fun n' hn' => ?_⟩
    by_cases hq : q = p
    · subst hq
      obtain rfl : { n with tail := v } = n' := by simpa using hn'
      obtain ⟨⟨hcount, hfill, hfree⟩, -⟩ := hu n hn
      have hmoved : ({ n with tail := v } : NoticeUnit).fill + distance v n.tail = n.fill :=
        distance_advance_tail (hv n hn)
      have hle : ({ n with tail := v } : NoticeUnit).fill ≤ n.fill := hmoved ▸ Nat.le_add_right ..
      exact ⟨⟨hcount, hle.trans hfill, fun hr => hle.trans_lt (hfree hr)⟩, fun y hy hel => by simp [gone y hy] at hel⟩
    · rw [State.setUnit_units, PerPort.get_set_ne _ _ hq] at hn'
      exact hu n' hn'
  · exact hs

/-! ### Grants (R172, R173) -/

theorem Quiet.markCrossing (r : RingId) (b : RingBody) (before after : Nat) :
    Quiet s (markCrossing r b before after s) := by
  unfold Machine.markCrossing
  dsimp only
  split <;> split
  · exact (Quiet.raiseRing ..).trans (.raiseRing ..)
  · exact .raiseRing ..
  · exact .raiseRing ..
  · exact .refl s

theorem Quiet.applyIndex (r : RingId) (w : IndexWord) (v : Index) : Quiet s (applyIndex r w v s) := by
  unfold Machine.applyIndex
  split
  · split
    · split
      · exact (Quiet.setRing ..).trans (.markCrossing ..)
      · exact ((Quiet.setRing ..).trans (.markCrossing ..)).trans (.retestHeld r)
    · exact .refl s
  · exact .refl s

theorem Quiet.quiesceRecovery (r : RingId) (b : RingBody) (f : FaultRecord) (oh ot : Option Index) :
    Quiet s (quiesceRecovery r b f oh ot s) := by
  unfold Machine.quiesceRecovery
  split
  · split
    · exact (Quiet.setRing ..).trans (.raiseRing ..)
    · exact .setRing ..
  · exact .setRing ..

theorem Quiet.observeIndex (q : Port) (r : RingId) (w : IndexWord) (x : WriteWord) :
    Quiet s (observeIndex q r w x s) := by
  unfold Machine.observeIndex
  split
  · split
    · split
      · split <;> exact .quiesceRecovery ..
      · exact .refl s
    · exact .refl s
  · exact .refl s

theorem Quiet.fetchOrIdle : Quiet s (fetchOrIdle s) := .of_same (by simp) (by simp)

theorem Quiet.presentEngine (q : EngineRequest) : Quiet s (presentEngine q s) := .setEngine _

theorem Quiet.restartEngine : Quiet s (restartEngine s) := by
  unfold Machine.restartEngine
  dsimp only
  split
  · exact (Quiet.presentEngine _).trans ((Quiet.setEngine _).trans (.presentEngine _))
  · exact (Quiet.presentEngine _).trans .fetchOrIdle

theorem Quiet.applyHead (v : Index) : Quiet s (applyHead v s) := by
  unfold Machine.applyHead
  dsimp only
  split
  · exact (Quiet.setEngine _).trans .fetchOrIdle
  · exact (Quiet.setEngine _).trans .restartEngine
  · exact .setEngine _

/-- The grant of a port's request is quiet unless it applies a notice tail write (R114, R173). -/
theorem grantEffect_cases (p : Port) (e : InFlight) (s : State) : Quiet s (grantEffect p e s) ∨
    ∃ x, singleWrite e.request.access = some x ∧ e.mark = some .noticeTail ∧
      grantEffect p e s = applyNoticeTail p (lowHalf x.data) s := by
  unfold grantEffect
  split
  · exact .inl (.refl s)
  · rename_i x hx
    split
    · exact .inr ⟨x, hx, ‹_›, rfl⟩
    · exact .inl (.applyHead _)
    · split
      · exact .inl (.applyIndex ..)
      · exact .inl (.observeIndex ..)
    · split
      · exact .inl (.observeIndex ..)
      · exact .inl (.refl s)

theorem Quiet.drainTestSeeding : Quiet s (drainTestSeeding s) := .of_same (by simp) (by simp)

theorem Quiet.handOver (q : Requester) (o : Origin) (x : Access) : Quiet s (handOver q o x s) := .of_same rfl rfl

theorem NoticeSound.grantPort (hs : NoticeSound s) (he : eligibleEntry s p = some e) :
    NoticeSound (grantPort p e s) := by
  set granted := Machine.changeEntry p InFlight.isEligible (fun e => { e with stage := .granted }) s with hgr
  have hgranted : NoticeSound granted := hs.quiet (.changeEntry fun _ _ => .leaves rfl)
  obtain ⟨hw, hu⟩ := noticeSound_iff.1 hs p
  have heffect : NoticeSound (Machine.grantEffect p e granted) := by
    rcases grantEffect_cases p e granted with hquiet | ⟨x, hx, hm, heq⟩
    · exact hgranted.quiet hquiet
    · rw [heq]
      refine hgranted.applyNoticeTail (inFlight_granted hw he) fun n hn => ?_
      have hfits := (hu n hn).2 e (List.mem_of_find?_eq_some he) (List.find?_some he) hm
      rw [writesIndex_of hx] at hfits
      exact of_decide_eq_true hfits
  exact heffect.quiet (Quiet.drainTestSeeding.trans (.handOver ..))

theorem Quiet.engineGrantEffect (k : EngineAccess) : Quiet s (engineGrantEffect k s) := by
  unfold Machine.engineGrantEffect
  split
  · split
    · exact .of_same rfl rfl
    · exact .refl s
  · split
    · exact (Quiet.setEngine _).trans .fetchOrIdle
    · exact .refl s
  · split
    · exact .presentEngine _
    · exact .refl s
  all_goals exact .refl s

theorem NoticeSound.execGrant (hs : NoticeSound s) (h : execGrant s = .next t) : NoticeSound t := by
  obtain rfl := Host.Outcome.next.inj h
  unfold arbitrate
  split
  · unfold grantTo
    split
    · split
      · exact hs.grantPort ‹_›
      · exact hs
    · split
      · exact hs.quiet ((Quiet.setEngine _).trans ((Quiet.engineGrantEffect _).trans (.handOver ..)))
      · exact hs
    · split
      · exact hs.quiet ((Quiet.setJob _).trans (.handOver ..))
      · exact hs
  · exact hs

end Sys2Proof.Machine
end

section
/-! The reset lines (R176 to R179), the ports' own happenings (R163, R166) and the time base (R67, R77) leave the notice
rings within their bounds; so every step does (R112). -/

namespace Sys2Proof.Machine

variable {s t u : State} {p : Port}

/-! ### The reset lines -/

theorem Quiet.execResetAssert (h : execResetAssert s = .next t) : Quiet s t := by
  obtain rfl := Host.Outcome.next.inj h
  refine ⟨fun q => .of_sublist (assertReset_inFlight s q ▸ List.nil_sublist _), fun q => ?_⟩
  cases q <;> exact .off _

theorem Quiet.execResetRelease {ctlBase : BitVec 21} {mgmtSel : Port}
    (h : execResetRelease ctlBase mgmtSel s = .next t) : Quiet s t := by
  obtain rfl := Host.Outcome.next.inj h
  unfold releaseReset
  split
  · exact .of_same rfl rfl
  · exact .refl s

theorem Quiet.setPortReset (level : Bool) : Quiet s (setPortReset p level s) := .of_same rfl rfl

theorem Quiet.discardRequests : Quiet s (discardRequests p s) :=
  (Quiet.setInFlight (.of_sublist (List.nil_sublist _))).trans ((Quiet.setOutstanding _).trans (.setHold p none))

theorem Quiet.faultTracking : Quiet s (faultTracking s) := by
  have hfold (l : List RingId) (v : State) : Quiet v (l.foldl (fun t r => Machine.faultEntry r .peerReset t) v) := by
    induction l generalizing v with
    | nil => exact .refl v
    | cons r l ih => exact (Quiet.faultEntry ..).trans (ih _)
  have hcount : Quiet s { s with freeCount := s.freeCount + 1 } := .of_same rfl rfl
  exact hcount.trans (hfold ..)

theorem Quiet.abandonJob (p : Port) : Quiet s (abandonJob p s) := .of_same (by simp) (by simp)

theorem Quiet.resetUnit (p : Port) : Quiet s (resetUnit p s) := by
  have hoff : Quiet s (Machine.abandonJob p (Machine.unitOff p s)) := (Quiet.unitOff p).trans (.abandonJob p)
  unfold Machine.resetUnit
  dsimp only
  split
  · exact hoff
  · exact (hoff.settleWait ..).settleWait ..

theorem Quiet.abandonSeeding : Quiet s (abandonSeeding s) := by
  rcases abandonSeeding_cases s with ⟨h, -⟩ | ⟨r, b, rec, -, -, -, h⟩ <;> rw [h]
  · exact .refl s
  · exact (Quiet.setRing ..).trans .unstallAll

theorem Quiet.abandonUnitWait : Quiet s (abandonUnitWait s) := by
  unfold Machine.abandonUnitWait
  split
  · exact (Quiet.unitOff _).trans (.abandonJob _)
  · refine .setUnit (.map _ fun n => ?_)
    unfold NoticeUnit.stopClosing
    split
    · rename_i rec _ hph
      refine ⟨_, rfl, fun hr => ?_⟩
      cases rec with
      | none => cases hr
      | some rec => simp [NoticeUnit.hasRecord, hph]
    · exact ⟨n.phase, rfl, id⟩
  · exact .refl s

theorem Quiet.execPortResetAssert (h : execPortResetAssert p s = .next t) : Quiet s t := by
  obtain rfl := Host.Outcome.next.inj h
  unfold assertPortReset
  split
  · exact .refl s
  · split
    · exact .setPortReset _
    · dsimp only
      have hdown : Quiet s (Machine.discardRequests p (Machine.setPortReset p true s)) :=
        (Quiet.setPortReset true).trans .discardRequests
      have htold : Quiet s (Machine.clearPortNotices p (Machine.raiseDevice (other p) .peerReset
          ((Machine.faultTracking (Machine.discardRequests p (Machine.setPortReset p true s))).mapRings
            RingEntry.flagPeerReset))) :=
        (hdown.trans .faultTracking).trans (.of_same (by simp) (by simp))
      have hall := htold.trans (Quiet.resetUnit p)
      split
      · exact hall.trans (Quiet.abandonSeeding.trans (Quiet.abandonUnitWait.trans (.of_same (by simp) (by simp))))
      · exact hall.trans .drainTestSeeding

theorem Quiet.execPortResetDeassert (h : execPortResetDeassert p s = .next t) : Quiet s t := by
  obtain rfl := Host.Outcome.next.inj h
  exact .setPortReset _

/-! ### Acceptance, departure and the time base -/

theorem Quiet.execAcceptance {q : Request} (h : execAcceptance p q s = .next t) : Quiet s t := by
  obtain rfl := Host.Outcome.next.inj h
  unfold accept
  split
  · refine ⟨fun p' => ?_, fun p' => .refl _⟩
    by_cases hp : p' = p
    · subst hp
      simpa [State.inFlight] using QuietList.append _ rfl
    · exact .of_eq (by simp only [State.inFlight, PerPort.get_set_ne _ _ hp])
  · exact .refl s

theorem Quiet.execResponseDeparture (h : execResponseDeparture p s = .next t) : Quiet s t := by
  obtain rfl := Host.Outcome.next.inj h
  unfold depart
  split
  · exact .refl s
  · rename_i e rest he
    split
    · have hlist : Quiet s (s.setInFlight p rest) := .setInFlight (.of_sublist (he ▸ List.sublist_cons_self e rest))
      exact hlist.trans (.of_same rfl rfl)
    · exact .refl s

theorem Quiet.expire (p : Port) : Quiet s (expire p s) := by
  unfold Machine.expire
  split
  · exact .refl s
  · split
    · exact (Quiet.refuseHeld p).trans ((Quiet.setRing ..).trans (.raiseRing ..))
    · exact .refl s

theorem Quiet.stepTime : Quiet s (stepTime s) := by
  have htick : Quiet s (tick s) := .of_same rfl rfl
  unfold Machine.stepTime
  split
  · exact .refl s
  · exact htick.trans ((Quiet.expire .a).trans (.expire .b))

theorem Quiet.execHoldExpiry (h : execHoldExpiry p s = .next t) : Quiet s t := by
  obtain rfl := Host.Outcome.next.inj h
  split
  · exact .stepTime
  · exact .refl s

/-! ### Every command and every step -/

/-- Every command but a presentation, a grant and SETUP_NOTICE is quiet. -/
theorem exec_quiet {c : Instr} (hpresent : ∀ p, c ≠ .presentation p) (hgrant : c ≠ .grant) (hsetup : c ≠ .setupNotice)
    (h : exec c s = .next t) : Quiet s t := by
  cases c with
  | presentation p => exact absurd rfl (hpresent p)
  | grant => exact absurd rfl hgrant
  | setupNotice => exact absurd rfl hsetup
  | resetAssert => exact .execResetAssert h
  | resetRelease => exact .execResetRelease h
  | portResetAssert => exact .execPortResetAssert h
  | portResetDeassert => exact .execPortResetDeassert h
  | acceptance => exact .execAcceptance h
  | memoryResponse => exact .execMemoryResponse h
  | discardedResponse => exact .execDiscardedResponse h
  | responseDeparture => exact .execResponseDeparture h
  | seedResponse => exact .execSeedResponse h
  | fetchResponse => exact .execFetchResponse h
  | reportBurstResponse => exact .execReportBurstResponse h
  | reportTailResponse => exact .execReportTailResponse h
  | initialisationBurstResponse => exact Host.Outcome.next.inj h ▸ .answered_only _
  | haltBurstResponse => exact Host.Outcome.next.inj h ▸ .answered_only _
  | restartStatusWriteResponse => exact Host.Outcome.next.inj h ▸ .answered_only _
  | badCommand => exact .execBadCommand h
  | defineRing => exact .execDefineRing h
  | releaseRing => exact .execReleaseRing h
  | armRing => exact .execArmRing h
  | disarmRing => exact .execDisarmRing h
  | clearFault => exact .execClearFault h
  | setMarks => exact .execSetMarks h
  | setGuard => exact .execSetGuard h
  | setNotify => exact .execSetNotify h
  | queryRing => exact .execQueryRing h
  | resetCounts => exact .execResetCounts h
  | noticeOff => exact .execNoticeOff h
  | resetTable => exact .execResetTable h
  | setupJob => exact .execSetupJob h
  | setupWriteResponse => exact .execSetupWriteResponse h
  | recordTaking => exact .execRecordTaking h
  | recordBurstResponse => exact .execRecordBurstResponse h
  | noticeHeadWriteResponse => exact .execNoticeHeadWriteResponse h
  | timeBaseStep => exact Host.Outcome.next.inj h ▸ .stepTime
  | holdExpiry => exact .execHoldExpiry h

theorem NoticeSound.exec (hs : NoticeSound s) {c : Instr} (h : exec c s = .next t) : NoticeSound t := by
  by_cases hpresent : ∃ p, c = .presentation p
  · obtain ⟨p, rfl⟩ := hpresent
    exact hs.execPresentation h
  by_cases hgrant : c = .grant
  · subst hgrant
    exact hs.execGrant h
  by_cases hsetup : c = .setupNotice
  · subst hsetup
    exact hs.execSetupNotice h
  exact hs.quiet (exec_quiet (not_exists.1 hpresent) hgrant hsetup h)

/-- Settles O58: a presentation, a grant and SETUP_NOTICE keep the notice rings within their bounds
(`NoticeSound.execPresentation`, `NoticeSound.execGrant`, `NoticeSound.execSetupNotice`), and every other command is
quiet (`exec_quiet`). -/
theorem stepKeepsNoticeRings : Obligations.StepKeepsNoticeRings := by
  intro s t hs h
  rcases step_cases h with ⟨-, rfl⟩ | ⟨c, rest, -, hc⟩
  · exact hs
  · exact NoticeSound.exec (s := { s with pending := rest }) hs hc

end Sys2Proof.Machine
end

section
/-! The notice units: what the checker does with accesses in their regions (R113, R115), their commands SETUP_NOTICE and
NOTICE_OFF (R105 to R108, R156 to R158), the setup writes (R107, R109), the writes of a record that memory takes (R108,
R111), and the interrupt lines (R118). -/

namespace Sys2Proof.Machine

variable {s : State} {p : Port} {c : CurrentCommand} {n : NoticeUnit} {cls : AccessClass} {x : Access}

/-! ### Presentations inside a notice unit's regions (R113, R115) -/

theorem presentClassified_of_notice (hcls : classify s x = cls)
    (h : cls ∈ [AccessClass.noticeData u, .noticeHead u, .noticeTail u]) :
    presentClassified p x s = presentNotice p cls x s := by
  simp only [List.mem_cons, List.not_mem_nil, or_false] at h
  rcases h with rfl | rfl | rfl <;> simp only [presentClassified, hcls]

theorem presentNotice_of_read (h : isWrite x = false) : presentNotice p cls x s = forwardPresented p cls none s := by
  simp only [presentNotice, h, if_true]

theorem presentNotice_of_write (h : isWrite x = true) (hc : cls ≠ .noticeTail p) :
    presentNotice p cls x s = refusePresented p (some cls) s := by
  simp only [presentNotice, h, hc, Bool.true_eq_false, if_false]

theorem presentNotice_of_tailWrite {w : WriteWord} (h : x.transfer = .write [w]) (hn : s.units.get p = some n) :
    presentNotice p (.noticeTail p) x s =
      if tailVerdict n w = true then forwardPresented p (.noticeTail p) (some .noticeTail) s
      else refusePresented p (some (.noticeTail p)) s := by
  have hw : isWrite x = true := by simp only [isWrite, h]
  simp only [presentNotice, hw, Bool.true_eq_false, if_false, if_true, hn, singleWrite_of h,
    noticeTailValid_eq_tailVerdict]

/-- Settles O14: the checker's cases for a notice region (`presentNotice_of_read`, `presentNotice_of_write`,
`presentNotice_of_tailWrite`). -/
theorem noticeAccessChecked : Obligations.NoticeAccessChecked := by
  intro s p u before after e cls hpres hpast hcls hmem x forwarded refused
  have hexec : exec (.presentation p) s = .next (presentNotice p cls x s) := by
    rw [execPresentation_of_within hpres hpast, presentClassified_of_notice hcls hmem]
  refine ⟨fun hread => ?_, fun hwrite hne => ?_, fun n w hw htail hn => ?_⟩
  · rw [hexec, presentNotice_of_read hread, forwardPresented_cut hpres rfl]
  · rw [hexec, presentNotice_of_write hwrite hne, refusePresented_cut hpres rfl]
  · subst htail
    rw [hexec, presentNotice_of_tailWrite hw hn, forwardPresented_cut hpres rfl, refusePresented_cut hpres rfl]

/-! ### Executing a unit command (R137, R138) -/

theorem Executes.unitCommand {code : Nat} (h : Executes s code (portNumber p) c) {allowed : Option NoticeUnit → Bool}
    (act : Port → State → State) (ha : allowed (s.units.get p) = true) :
    unitCommand allowed act c.words s = act p s := by
  obtain ⟨-, -, hop, -⟩ := h.facts
  simp only [Machine.unitCommand, portOperand_of hop, ha, if_true]

/-- A port's waiting tail writes lose their mark (R114). -/
def unmarkedTails (s : State) (p : Port) : PerPort PortIface :=
  s.ports.set p
    { s.ports.get p with
      inFlight := (s.inFlight p).map fun e =>
        if e.stage = .eligible ∧ e.mark = some .noticeTail then { e with mark := none } else e }

theorem dropNoticeMarks_eq (p : Port) (s : State) : dropNoticeMarks p s = { s with ports := unmarkedTails s p } := by
  rw [dropNoticeMarks, dropNoticeMark_eq]
  rfl

/-- What a unit's going OFF changes (R107, R108, R119). -/
theorem unitOff_eq (p : Port) (s : State) : unitOff p s =
    { s with units := s.units.set p none, ports := unmarkedTails s p } := by
  rw [unitOff, dropNoticeMarks_eq]
  rfl

/-! ### SETUP_NOTICE (R105, R106, R156, R157) -/

theorem execSetupNotice_eq (h : Executes s 11 (portNumber p) c) (ha : allowedSetup (s.units.get p) = true) :
    exec .setupNotice s = .next
      (if GeometryOk c.words.params then
        if LiesApart (unitOf c.words.params).regions (reservedByOtherUnits s p) then
          beginSetup p (unitOf c.words.params) s
        else finish .overlap s
      else finish .badField s) := by
  rw [exec, execSetupNotice, h.performing (k := .setupNotice) rfl, h.unitCommand _ ha, parseUnit_eq]
  by_cases hg : GeometryOk c.words.params
  · simp only [if_pos hg, unitApart_iff]
  · simp only [if_neg hg]

theorem beginSetup_eq (p : Port) (n : NoticeUnit) (s : State) : beginSetup p n s =
    { s with
      units := s.units.set p (some n)
      ports := unmarkedTails s p
      engine := waitingFor s (.setup p) [] } := by
  simp only [beginSetup, dropNoticeMarks_eq, waitingFor, List.append_nil]
  rfl

theorem allowedSetup_of (h : s.units.get p = none ∨ ∃ u f, s.units.get p = some u ∧ u.phase = .halted f) :
    allowedSetup (s.units.get p) = true := by
  rcases h with h | ⟨u, f, h, hph⟩
  · rw [h]
    rfl
  · simp only [h, allowedSetup, hph]

/-- Settles O42: the fields and regions are checked in that order (`execSetupNotice_eq`), and the setup begins
(`beginSetup_eq`). -/
theorem setupNoticeResult : Obligations.SetupNoticeResult := by
  intro s c p h hunit w
  have hexec := execSetupNotice_eq h (allowedSetup_of hunit)
  obtain ⟨-, -, -, hcur, -⟩ := h.facts
  refine ⟨fun hg => ?_, fun hg ha => ?_, fun hg ha => ?_⟩
  · rw [hexec, if_neg hg, finish_of_current hcur]
  · rw [hexec, if_pos hg, if_neg ha, finish_of_current hcur]
  · rw [hexec, if_pos hg, if_pos ha, beginSetup_eq]
    rfl

/-! ### NOTICE_OFF (R108, R158, R186) -/

theorem execNoticeOff_eq (h : Executes s 12 (portNumber p) c) (ha : allowedOff (s.units.get p) = true) :
    exec .noticeOff s = .next (closeUnit p s) := by
  rw [exec, execNoticeOff, h.performing (k := .noticeOff) rfl, h.unitCommand _ ha]

/-- A unit goes OFF and NOTICE_OFF reports OK (R108, R158). -/
theorem report_unitOff (hcur : s.engine.current = some c) (p : Port) (result : Params) :
    report .ok result (unitOff p s) =
      { s with
        units := s.units.set p none
        ports := unmarkedTails s p
        engine := reporting s c .ok result } := by
  rw [report_of_current (s := unitOff p s) (by simpa using hcur), unitOff_eq]
  rfl

/-! ### The setup writes (R107, R109, R182) -/

theorem jobOf_of_settingUp (hu : s.units.get p = some n) (hph : n.phase = .settingUp) : jobOf s p = some .setup := by
  simp only [jobOf, hu, hph]

/-- The response to a unit's setup write. -/
theorem execSetupWriteResponse_eq {w : NoticeWrite} {rest : List OutEntry} (status : MemStatus)
    (hw : answersSetup (.notice p w) = true)
    (ho : s.outstanding = { origin := .notice p w, discarded := false } :: rest) :
    exec (.setupWriteResponse status) s = .next (setupAnswered p w status (s.setOutstanding rest)) := by
  rw [exec, execSetupWriteResponse, answered_of ho hw]

/-- The report a settled setup forms, its parameter words as fetched (R107, R129, R130). -/
theorem settled_setup (hw : s.engine.state = .waiting (.setup p)) (hcur : s.engine.current = some c)
    (status : CommandStatus) :
    settled s (.setup p) status (fetchedParams s) = reporting s c status c.words.params := by
  rw [settled_of_waiting hcur hw]
  simp only [fetchedParams, hcur]

/-- The tail word's setup write taken by memory makes the unit READY (R107). -/
theorem setupAnswered_tail (hu : s.units.get p = some n) (hph : n.phase = .settingUp)
    (hw : s.engine.state = .waiting (.setup p)) (hcur : s.engine.current = some c) :
    setupAnswered p .setupTail .okay s =
      { s with
        requester := { s.requester with job := none }
        units := s.units.set p (some { n with phase := .ready none false })
        engine := reporting s c .ok c.words.params } := by
  rw [← settled_setup hw hcur]
  simp only [setupAnswered, hu, hph, settleWait_eq]
  rfl

/-- A MEMERR on a setup write ends the setup (R107). -/
theorem setupAnswered_memErr {w : NoticeWrite} (hu : s.units.get p = some n) (hph : n.phase = .settingUp)
    (hw : s.engine.state = .waiting (.setup p)) (hcur : s.engine.current = some c) :
    setupAnswered p w .memErr s =
      { s with
        requester := { s.requester with job := none }
        units := s.units.set p none
        ports := unmarkedTails s p
        engine := reporting s c .memoryError c.words.params } := by
  rw [← settled_setup hw hcur]
  simp only [setupAnswered, hu, hph, failSetup, unitOff_eq, settleWait_eq]
  rfl

/-- Settles O44: the setup job is next (`nextJob_of_turn`), and each response is answered as `setupAnswered_tail` and
`setupAnswered_memErr` say. -/
theorem setupWritesRun : Obligations.SetupWritesRun := by
  intro s p u rest c hu hph
  refine ⟨fun hfree hturn => ?_, fun hw hcur => ⟨fun ho => ?_, fun ho => ?_, fun w hmem ho => ?_⟩⟩
  · have hjob := nextJob_of_turn hfree (jobOf_of_settingUp hu hph) hturn
    rw [exec, execSetupJob, serveSetup, hjob]
    simp only [hu]
    rfl
  · rw [execSetupWriteResponse_eq .okay rfl ho]
    simp only [setupAnswered, State.setOutstanding_units, hu, hph]
    rfl
  · rw [execSetupWriteResponse_eq .okay rfl ho, setupAnswered_tail (s := s.setOutstanding rest) hu hph hw hcur]
    rfl
  · have hset : answersSetup (.notice p w) = true := by
      simp only [List.mem_cons, List.not_mem_nil, or_false] at hmem
      rcases hmem with rfl | rfl <;> rfl
    rw [execSetupWriteResponse_eq .memErr hset ho, setupAnswered_memErr (s := s.setOutstanding rest) hu hph hw hcur]
    rfl

/-! ### A record's writes taken by memory (R108, R111) -/

/-- The index behind another, as the part writes it (R2, R182). -/
theorem indexAsWord_succ (i : Index) : indexAsWord (i + 1) = BitVec.ofNat 32 ((i.toNat + 1) % 65536) := by
  rw [indexAsWord_eq, BitVec.toNat_add]
  rfl

/-- The completion of a closing unit's record makes it OFF and settles NOTICE_OFF (R108, R111). -/
theorem completeRecord_closing (p : Port) (n : NoticeUnit) (s : State) : completeRecord p n true s =
    { s with
      units := s.units.set p none
      ports := unmarkedTails s p
      requester := { s.requester with job := none }
      engine := settled s (.noticeOff p) .ok ⟨0, 0, 0, 0, 0, 0⟩ } := by
  simp only [completeRecord, if_true, unitOff_eq, settleWait_eq, noticeOffResult_none, State.setJob, State.setUnit,
    PerPort.set_set]
  rfl

/-- Settles O47: the burst leads to the head write, and the head write completes the record
(`completeRecord_closing` for a closing unit). -/
theorem recordWritten : Obligations.RecordWritten := by
  intro s p u rec closing rest hu hph
  refine ⟨fun ho hrec => ?_, fun ho hrec => ?_⟩
  · rw [exec, execRecordBurstResponse, answered_of ho rfl]
    simp only [recordAnswered, State.setOutstanding_units, hu, hph, hrec, indexAsWord_succ]
    rfl
  · have hexec : exec (.noticeHeadWriteResponse .okay) s =
        .next (completeRecord p u closing (s.setOutstanding rest)) := by
      rw [exec, execNoticeHeadWriteResponse, answered_of ho rfl]
      simp only [recordAnswered, State.setOutstanding_units, hu, hph, hrec]
    refine ⟨?_, ?_⟩ <;> rintro rfl <;> rw [hexec]
    · rfl
    · rw [completeRecord_closing]
      rfl

/-! ### The interrupt lines (R118) -/

/-- A notice ring has a fill above 0 exactly while its indices differ (R103). -/
theorem NoticeUnit.fill_pos (n : NoticeUnit) : 0 < n.fill ↔ n.head ≠ n.tail := by
  rw [Nat.pos_iff_ne_zero, not_iff_not, fill_eq_ahead]
  have := n.head.isLt
  have := n.tail.isLt
  refine Iff.trans ?_ BitVec.toNat_inj
  simp only [ahead]
  omega

/-- The line of a unit that is not OFF (R118). -/
theorem intLine_of_unit (hn : s.units.get p = some n) :
    intLine s p = true ↔ (∃ f, n.phase = .halted f) ∨ (∀ f, n.phase ≠ .halted f) ∧ 0 < n.fill := by
  rcases n with ⟨_, _, _, _, _, _, _, ph⟩
  cases ph <;> simp [intLine, hn]

/-- Settles O49: the line of each unit (`intLine_of_unit`) and its fill (`NoticeUnit.fill_pos`). -/
theorem interruptLines : Obligations.InterruptLines := by
  intro s p
  refine ⟨fun hoff => by simp only [intLine, hoff], fun u hu => ⟨fun f hph => ?_, fun hrun => ?_, ?_⟩⟩
  · exact (intLine_of_unit hu).2 (.inl ⟨f, hph⟩)
  · rw [intLine_of_unit hu, or_iff_right (not_exists.2 hrun), and_iff_right hrun, u.fill_pos]
  · exact ⟨u.fill_eq_ahead, u.fill_pos⟩

end Sys2Proof.Machine
end

section
/-! The result of NOTICE_OFF (R108, R158, R186); beside `Machine.noticeOffResult`, the result words themselves. -/

namespace Sys2Proof

open Machine

/-- Settles O43: by the unit's phase, with the unit OFF and the report formed (`report_unitOff`) or the closing flag
set. -/
theorem noticeOffResult : Obligations.NoticeOffResult := by
  intro s c p u h hu off
  obtain ⟨-, -, -, hcur, -⟩ := h.facts
  have hoff (result : Params) : report .ok result (unitOff p s) = off result := report_unitOff hcur p result
  refine ⟨fun closing hph => ?_, fun f hph => ?_, fun rec closing hph => ?_⟩
  · rw [execNoticeOff_eq h (by simp only [hu, allowedOff, hph])]
    simp only [closeUnit, hu, hph, hoff, noticeOffResult_none]
  · rw [execNoticeOff_eq h (by simp only [hu, allowedOff, hph])]
    simp only [closeUnit, hu, hph, hoff]
    exact congrArg (fun result => Host.Outcome.next (off result)) (noticeOffResult_some f)
  · rw [execNoticeOff_eq h (by simp only [hu, allowedOff, hph])]
    simp only [closeUnit, hu, hph, waitingFor, List.append_nil]
    rfl

end Sys2Proof
end

section
/-! Acceptance (R163), the grant of a command head write (R124, R134), memory's answers to the engine's own accesses
(R126 to R128, R131 to R134), and the first three checks of the engine's commands (R137, R138). -/

namespace Sys2Proof.Machine

variable {s : State} {p : Port} {c : CurrentCommand} {r : RingId} {o : Origin} {rest : List OutEntry}

/-! ### Acceptance (R163) -/

/-- The conditions of acceptance as R163 lists them. -/
theorem mayAccept_iff : mayAccept s p = true ↔ (s.inFlight p).length < 8 ∧ s.portReset.get p = false ∧
    s.resetLine = false ∧ s.windowMapped = true ∧ (p = s.mgmt → s.engine.state ≠ .init) := by
  simp only [mayAccept, Bool.and_eq_true, Bool.not_eq_true', decide_eq_true_iff, Bool.and_eq_false_imp, beq_iff_eq,
    beq_eq_false_iff_ne, and_assoc, eq_comm (a := s.mgmt), ne_eq]

/-- Settles O8: a request the bus carries is taken under R163's conditions (`mayAccept_iff`). -/
theorem acceptanceTakesRequest : Obligations.AcceptanceTakesRequest := by
  intro p q s hq
  simp only [exec, execAcceptance, accept, hq, Bool.and_true, mayAccept_iff]
  rfl

/-! ### The grant of a command head write (R124, R134) -/

/-- The engine fetches the slot at its tail, or is IDLE, behind further accesses (R124, R127, R134). -/
def Engine.goesOn (base : Word) (more : List EngineRequest) (e : Engine) : Engine :=
  if e.head = e.tail then { e with state := .idle, requests := e.requests ++ more }
  else
    { e with
      state := .fetching
      requests := e.requests ++ more ++
        [{ kind := .fetch
           access := { addr := base + BitVec.ofNat 32 (16 + 32 * (e.tail.toNat % 32)), transfer := .read 8 } }] }

/-- The engine after an applied command head write, by its state (R124, R134). -/
def Engine.afterHead (s : State) (v : Index) (e : Engine) : Engine :=
  match e.state with
  | .idle => { e with head := v }.goesOn (windowBase s) []
  | .halted _ =>
    match e.report with
    | none => { e with head := v }.goesOn (windowBase s) [statusWrite s]
    | some rp =>
      { e with
        head := v
        state := .reporting
        phase := some .burst
        requests := e.requests ++ [statusWrite s, reportBurst s rp] }
  | _ => { e with head := v }

theorem fetchOrIdle_setEngine (e : Engine) (more : List EngineRequest) (s : State) :
    fetchOrIdle (s.setEngine { e with requests := e.requests ++ more }) = s.setEngine (e.goesOn (windowBase s) more) :=
  fetchOrIdle_eq _

/-- What an applied command head write makes of the engine (R124, R127, R134). -/
theorem applyHead_eq (v : Index) (s : State) : applyHead v s = s.setEngine (s.engine.afterHead s v) := by
  cases hst : s.engine.state with
  | idle => simp only [applyHead, Engine.afterHead, hst, ← fetchOrIdle_setEngine, List.append_nil]
  | halted info =>
    cases hrp : s.engine.report with
    | none =>
      simp only [applyHead, Engine.afterHead, hst, hrp, restartEngine, presentEngine, State.setEngine_engine,
        ← fetchOrIdle_setEngine]
      rfl
    | some rp =>
      simp only [applyHead, Engine.afterHead, hst, hrp, restartEngine, presentEngine, State.setEngine_engine,
        List.append_assoc]
      rfl
  | _ => simp only [applyHead, Engine.afterHead, hst]

/-- Settles O24: the write belongs to no ring, and its grant applies the head (`applyHead_eq`). -/
theorem commandHeadApplied : Obligations.CommandHeadApplied := by
  intro s p before after e x h hm hcls hx fetch status burst here fetching engine
  have hring : e.ring? = none := by rw [InFlight.ring?_eq, hcls]
  have happ : isApplied s e = false := by simp only [isApplied, hm]
  have hburst : reportBurst (grantedEntry s p before e after) = burst := by
    funext rp
    simp only [reportBurst, slotAddr_add_four, CommandStatus.code_eq]
    rfl
  have hengine : s.engine.afterHead (grantedEntry s p before e after) (indexOf x) = engine := by
    simp only [Engine.afterHead, hburst]
    rfl
  have heffect : grantEffect p e (grantedEntry s p before e after) =
      (grantedEntry s p before e after).setEngine engine := by
    simp only [grantEffect, singleWrite_of hx, hm, ← indexOf_eq_lowHalf, applyHead_eq, ← hengine]
    rfl
  rw [execGrant_of_port h, happ, hring, heffect]

/-! ### Responses that change nothing else (R126, R133, R134, R175) -/

/-- The response of a discarded entry (R175). -/
theorem execDiscardedResponse_eq {o : OutEntry} (h : s.outstanding = o :: rest) (ho : o.discarded = true) :
    exec .discardedResponse s = .next (s.setOutstanding rest) := by
  simp only [exec, execDiscardedResponse, dropResponse, h, ho, if_true]

/-- Settles O29: the oldest entry leaves the list, and nothing is done (`answered_of`). -/
theorem ignoredResponses : Obligations.IgnoredResponses := by
  refine ⟨fun s h => ?_, fun s o rest status h => ⟨execDiscardedResponse_eq h, fun ho => ?_⟩⟩
  · simp only [exec, execDiscardedResponse, dropResponse, h]
  · obtain ⟨origin, _⟩ := o
    obtain rfl : _ = false := ho
    refine ⟨?_, ?_, ?_⟩ <;> rintro rfl
    · exact congrArg Host.Outcome.next (answered_of h rfl)
    · exact congrArg Host.Outcome.next (answered_of h rfl)
    · exact congrArg Host.Outcome.next (answered_of h rfl)

/-! ### The engine's fetch and report (R127, R128, R131 to R133) -/

/-- The engine enters HALTED (R132, R133). -/
theorem haltEngine_eq (info : HaltInfo) (s : State) : haltEngine info s =
    raise .device s.mgmt 0b000001#6
      { s with
        outstanding := s.outstanding.map fun o => if o.origin = .engine .fetch then { o with discarded := true } else o
        engine := haltedEngine s info } := by
  have hburst : haltBurst s info = haltWrite s info := by
    simp only [haltBurst, haltWrite, engineStatusWord_halted, partWrite_eq_fullWrite]
  simp only [haltEngine, presentEngine, hburst]
  rfl

theorem haltedEngine_congr {t : State} (engine : t.engine = s.engine) (base : t.ctlBase = s.ctlBase) :
    haltedEngine t = haltedEngine s := by
  funext info
  simp only [haltedEngine, haltWrite, windowBase, engine, base]

/-- Settles O31: the oldest entry is the engine's access (`answered_of`), and a MEMERR on it halts the engine
(`haltEngine_eq`). -/
theorem engineAnswered : Obligations.EngineAnswered := by
  refine ⟨fun s rest words ho hst => ?_, fun s rest rp hrp => ?_⟩
  · have hanswer (status : MemStatus) : exec (.fetchResponse status words) s =
        .next (fetched status words (s.setOutstanding rest)) :=
      congrArg Host.Outcome.next (answered_of ho rfl)
    have hst' : (s.setOutstanding rest).engine.state = .fetching := hst
    refine ⟨?_, ?_⟩
    · rw [hanswer, fetched, if_pos hst']
      rfl
    · rw [hanswer, fetched, if_pos hst', haltEngine_eq]
      rfl
  · refine ⟨fun ho hst => ?_, fun ho hst => ?_⟩
    · have hanswer (status : MemStatus) : exec (.reportBurstResponse status) s =
          .next (reportBurstAnswered status (s.setOutstanding rest)) :=
        congrArg Host.Outcome.next (answered_of ho rfl)
      refine ⟨?_, ?_⟩
      · rw [hanswer]
        simp only [reportBurstAnswered, State.setOutstanding_engine, hst, hrp, presentEngine, tailWrite, indexAsWord_eq,
          BitVec.toNat_add]
        rfl
      · rw [hanswer]
        simp only [reportBurstAnswered, State.setOutstanding_engine, hst, hrp, haltEngine_eq, slotAddr_add_four]
        rfl
    · have hanswer (status : MemStatus) : exec (.reportTailResponse status) s =
          .next (reportTailAnswered status (s.setOutstanding rest)) :=
        congrArg Host.Outcome.next (answered_of ho rfl)
      refine ⟨?_, ?_⟩
      · rw [hanswer]
        simp only [reportTailAnswered, State.setOutstanding_engine, if_pos hst, hrp]
        rfl
      · rw [hanswer]
        simp only [reportTailAnswered, State.setOutstanding_engine, if_pos hst, hrp, haltEngine_eq]
        rfl

/-! ### The checks of the command ring (R137, R138) -/

/-- A ring command checks nothing before the operand and the ring's state, and then acts on the ring (R137). -/
def ChecksRing (code : Nat) (i : Instr) (allowed : RingEntry → Bool) : Prop :=
  ∃ (k : CommandCode) (act : SlotWords → RingId → State → State), commandOfCode (BitVec.ofNat 8 code) = some k ∧
    ∀ s, exec i s = .next (performing k (fun w => ringCommand allowed (act w) w) s)

/-- A check allows no ring in a state of another code (10.1). -/
def AllowsOnly (allowed : RingEntry → Bool) (states : List Nat) : Prop :=
  ∀ e, allowed e = true → stateNumber e ∈ states

/-- The states each check allows, as state codes (08, 10.1). -/
theorem checks_allowOnly :
    AllowsOnly allowedDefine [0, 1] ∧ AllowsOnly allowedDefined [1] ∧ AllowsOnly allowedDisarm [3, 4] ∧
      AllowsOnly allowedFaulted [4] ∧ AllowsOnly allowedChange [1, 3, 4] ∧
      AllowsOnly (fun _ => true) [0, 1, 2, 3, 4] := by
  simp only [AllowsOnly, ← forall_and]
  intro e
  rcases hb : e.body with _ | ⟨_, _, _, ph⟩
  · simp [stateNumber, allowedDefined, allowedDisarm, allowedFaulted, allowedChange, RingEntry.phase?, hb]
  · cases ph <;>
      simp [stateNumber, allowedDefine, allowedDefined, allowedDisarm, allowedFaulted, allowedChange,
        RingEntry.phase?, hb]

/-- A command's check allows no state beyond the command's row of the table of 08. -/
theorem AllowsOnly.row {code : Nat} {states : List Nat} {allowed : RingEntry → Bool} (h : AllowsOnly allowed states)
    (hrow : ∀ states', (code, states') ∈ allowedStates → states' = states) :
    ∀ states', (code, states') ∈ allowedStates → AllowsOnly allowed states' :=
  fun states' hs' => hrow states' hs' ▸ h

/-- Each ring command makes its checks in R137's order, and allows no state beyond its row (R138, 08). -/
theorem checksRing_of_mem {code : Nat} {i : Instr} (h : (code, i) ∈ ringCommands) : ∃ allowed,
    ChecksRing code i allowed ∧ ∀ states, (code, states) ∈ allowedStates → AllowsOnly allowed states := by
  obtain ⟨hdefine, hdefined, hdisarm, hfaulted, hchange, hany⟩ := checks_allowOnly
  simp only [ringCommands, List.mem_cons, Prod.mk.injEq, List.not_mem_nil, or_false] at h
  rcases h with ⟨rfl, rfl⟩ | ⟨rfl, rfl⟩ | ⟨rfl, rfl⟩ | ⟨rfl, rfl⟩ | ⟨rfl, rfl⟩ | ⟨rfl, rfl⟩ | ⟨rfl, rfl⟩ | ⟨rfl, rfl⟩ |
    ⟨rfl, rfl⟩ | ⟨rfl, rfl⟩
  · exact ⟨_, ⟨_, _, rfl, fun _ => rfl⟩, hdefine.row (by simp [allowedStates])⟩
  · exact ⟨_, ⟨_, _, rfl, fun _ => rfl⟩, hdefined.row (by simp [allowedStates])⟩
  · exact ⟨_, ⟨_, _, rfl, fun _ => rfl⟩, hdefined.row (by simp [allowedStates])⟩
  · exact ⟨_, ⟨_, _, rfl, fun _ => rfl⟩, hdisarm.row (by simp [allowedStates])⟩
  · exact ⟨_, ⟨_, _, rfl, fun _ => rfl⟩, hfaulted.row (by simp [allowedStates])⟩
  · exact ⟨_, ⟨_, _, rfl, fun _ => rfl⟩, hchange.row (by simp [allowedStates])⟩
  · exact ⟨_, ⟨_, _, rfl, fun _ => rfl⟩, hchange.row (by simp [allowedStates])⟩
  · exact ⟨_, ⟨_, _, rfl, fun _ => rfl⟩, hchange.row (by simp [allowedStates])⟩
  · exact ⟨_, ⟨_, _, rfl, fun _ => rfl⟩, hany.row (by simp [allowedStates])⟩
  · exact ⟨_, ⟨_, _, rfl, fun _ => rfl⟩, hchange.row (by simp [allowedStates])⟩

theorem ringCommand_of_none {allowed : RingEntry → Bool} {act : RingId → State → State} {w : SlotWords}
    (h : ringOperand w = none) : ringCommand allowed act w s = finish .badRing s := by
  simp only [ringCommand, h]

theorem ringCommand_of_not_allowed {allowed : RingEntry → Bool} {act : RingId → State → State} {w : SlotWords}
    (h : ringOperand w = some r) (ha : allowed (s.ring r) = false) :
    ringCommand allowed act w s = finish .wrongState s := by
  simp only [ringCommand, h, ha, Bool.false_eq_true, if_false]

theorem unitCommand_of_none {allowed : Option NoticeUnit → Bool} {act : Port → State → State} {w : SlotWords}
    (h : portOperand w = none) : unitCommand allowed act w s = finish .badRing s := by
  simp only [unitCommand, h]

theorem unitCommand_of_not_allowed {allowed : Option NoticeUnit → Bool} {act : Port → State → State} {w : SlotWords}
    (h : portOperand w = some p) (ha : allowed (s.units.get p) = false) :
    unitCommand allowed act w s = finish .wrongState s := by
  simp only [unitCommand, h, ha, Bool.false_eq_true, if_false]

/-- SETUP_NOTICE is not allowed for a RUNNING unit (R156). -/
theorem allowedSetup_of_running {u : NoticeUnit}
    (h : u.phase = .settingUp ∨ ∃ rec closing, u.phase = .ready rec closing) : allowedSetup (some u) = false := by
  rcases h with h | ⟨rec, closing, h⟩ <;> simp only [allowedSetup, h]

/-- Settles O32: a ring command makes its checks in order (`checksRing_of_mem`), and so do the unit commands. -/
theorem commandsChecked : Obligations.CommandsChecked := by
  intro s c code operand h failed
  obtain ⟨hex, hcode, hop, hcur, hlt⟩ := h.facts
  have hfinish (status : CommandStatus) : Host.Outcome.next (finish status s) = failed status :=
    congrArg Host.Outcome.next (finish_of_current hcur status)
  have hsetup (hc : code = 11) :
      ∃ act, exec .setupNotice s = .next (unitCommand allowedSetup act c.words s) :=
    ⟨_, congrArg Host.Outcome.next (h.performing (by rw [hc]; rfl) _)⟩
  have hoff (hc : code = 12) : exec .noticeOff s = .next (unitCommand allowedOff closeUnit c.words s) :=
    congrArg Host.Outcome.next (h.performing (by rw [hc]; rfl) _)
  refine ⟨fun hc => ?_, fun ho i hi => ?_, fun ho => ?_, fun r i states hr hi hs hns => ?_, fun p hp => ?_⟩
  · have hnone : codeOf c.words = none := hcode.trans (commandOfCode_undefined hlt hc)
    simp only [exec, execBadCommand, hex, hnone, if_true, hfinish]
  · obtain ⟨allowed, ⟨k, act, hk, hexec⟩, -⟩ := checksRing_of_mem hi
    rw [hexec, h.performing hk, ringCommand_of_none (ringOperand_none (hop ▸ ho)), hfinish]
  · have hnone : portOperand c.words = none := portOperand_none (hop ▸ ho)
    refine ⟨fun hc => ?_, fun hc => ?_⟩
    · obtain ⟨act, hexec⟩ := hsetup hc
      rw [hexec, unitCommand_of_none hnone, hfinish]
    · rw [hoff hc, unitCommand_of_none hnone, hfinish]
  · obtain ⟨allowed, ⟨k, act, hk, hexec⟩, hrow⟩ := checksRing_of_mem hi
    have hnot : allowed (s.ring r) = false := Bool.not_eq_true _ ▸ fun ha => hns (hrow states hs _ ha)
    rw [hexec, h.performing hk, ringCommand_of_not_allowed (ringOperand_of (hop.trans hr)) hnot, hfinish]
  · have hport : portOperand c.words = some p := portOperand_of (hop.trans hp)
    refine ⟨fun hc ⟨u, hu, hrun⟩ => ?_, fun hc hu => ?_⟩
    · have hu' : s.units.get p = some u := hu
      obtain ⟨act, hexec⟩ := hsetup hc
      rw [hexec, unitCommand_of_not_allowed hport (hu' ▸ allowedSetup_of_running hrun), hfinish]
    · rw [hoff hc, unitCommand_of_not_allowed hport (by rw [hu]; rfl), hfinish]

end Sys2Proof.Machine
end

section
/-! SUPPORT. The command ring (R124): the invariant put field by field and request by request, and the changes that keep
it without a move of the engine's head or tail. -/

namespace Sys2Proof.Machine

variable {s t u : State} {p : Port} {e e' e'' : Engine}

/-! ### The engine's own fields (R124, R127, R131) -/

/-- What R124's invariant asks of the engine's own fields. -/
structure Engine.Within (e : Engine) : Prop where
  bound : distance e.head e.tail ≤ 32
  init : e.state = .init → e.report = none
  busy : e.state.inProgress = true → e.head ≠ e.tail
  current : e.state.hasCommand = true → ∀ c, e.current = some c → c.index = e.tail
  report : ∀ r, e.report = some r → r.index + 1 = e.tail ∨ r.index = e.tail ∧ e.head ≠ e.tail

theorem EngineState.inProgress_of_hasCommand {st : EngineState} (h : st.hasCommand = true) : st.inProgress = true := by
  cases st <;> first | rfl | cases h

/-- How the engine goes on while its head and tail stay: it is within its bounds still, and does not return to INIT. -/
structure Engine.Goes (e e' : Engine) : Prop where
  head : e'.head = e.head
  tail : e'.tail = e.tail
  init : e'.state = .init → e.state = .init
  within : e.Within → e'.Within

theorem Engine.Goes.refl (e : Engine) : e.Goes e := ⟨rfl, rfl, id, id⟩

theorem Engine.Goes.trans (h : e.Goes e') (h' : e'.Goes e'') : e.Goes e'' :=
  ⟨h'.head.trans h.head, h'.tail.trans h.tail, h.init ∘ h'.init, h'.within ∘ h.within⟩

/-- The engine takes up no command and forms no report. -/
theorem Engine.Goes.of_state (head : e'.head = e.head) (tail : e'.tail = e.tail)
    (init : e'.state = .init → e.state = .init)
    (busy : e'.state.inProgress = true → e.state.inProgress = true)
    (current : e'.state.hasCommand = true → e.state.hasCommand = true ∧ e'.current = e.current)
    (report : ∀ r, e'.report = some r → e.report = some r) : e.Goes e' := by
  refine ⟨head, tail, init, fun h => ⟨?_, fun hi => ?_, fun hb => ?_, fun hc c hcur => ?_, fun r hr => ?_⟩⟩
  · rw [head, tail]
    exact h.bound
  · exact Option.eq_none_iff_forall_ne_some.2 fun r hr => by simpa [report r hr] using h.init (init hi)
  · rw [head, tail]
    exact h.busy (busy hb)
  · obtain ⟨hc', hsame⟩ := current hc
    rw [tail]
    exact h.current hc' c (hsame ▸ hcur)
  · rw [head, tail]
    exact h.report r (report r hr)

/-- The accesses that wait at the arbiter change, and the report phase. -/
theorem Engine.Goes.requests (phase : Option ReportPhase) (l : List EngineRequest) :
    e.Goes { e with phase := phase, requests := l } :=
  .of_state rfl rfl id id (fun h => ⟨h, rfl⟩) fun _ => id

/-- The engine stops at a state in which no command is in progress (R133, R134). -/
theorem Engine.Goes.rests {st : EngineState} (h : st.inProgress = false) (hi : st ≠ .init) (phase : Option ReportPhase)
    (l : List EngineRequest) : e.Goes { e with state := st, phase := phase, requests := l } :=
  .of_state rfl rfl (fun h' => absurd h' hi) (fun h' => by simp [h] at h')
    (fun h' => by simp [EngineState.inProgress_of_hasCommand h'] at h) fun _ => id

/-- The engine waits for its command's timed part (R129). -/
theorem Engine.Goes.waits (h : e.state.hasCommand = true) (w : EngineWait) : e.Goes { e with state := .waiting w } :=
  .of_state rfl rfl (nofun) (fun _ => EngineState.inProgress_of_hasCommand h) (fun _ => ⟨h, rfl⟩)
    fun _ => id

/-- The report of the current command is formed: the command is the one at the tail (R127, R129). -/
theorem Engine.Goes.reports (h : e.state.hasCommand = true) {c : CurrentCommand} (hc : e.current = some c)
    (status : CommandStatus) (words : Params) (phase : Option ReportPhase) (l : List EngineRequest) :
    e.Goes
      { e with
        state := .reporting
        report := some { index := c.index, status := status, words := words }
        phase := phase
        requests := l } := by
  refine ⟨rfl, rfl, nofun, fun hw => ⟨hw.bound, nofun, nofun,
    nofun, fun r hr => ?_⟩⟩
  obtain rfl := Option.some.inj hr
  exact .inr ⟨hw.current h c hc, hw.busy (EngineState.inProgress_of_hasCommand h)⟩

/-- The words fetched become the current command, at the tail (R127). -/
theorem Engine.Goes.fetched (h : e.state = .fetching) (words : SlotWords) :
    e.Goes { e with state := .executing, current := some { index := e.tail, words := words } } := by
  refine ⟨rfl, rfl, nofun, fun hw => ⟨hw.bound, nofun, fun _ => ?_, fun _ c hc => ?_,
    hw.report⟩⟩
  · exact hw.busy (by rw [h]; rfl)
  · obtain rfl := Option.some.inj hc
    rfl

/-- The next fetch is presented while commands are left (R124, R127). -/
theorem Engine.Goes.fetching (h : e.head ≠ e.tail) (l : List EngineRequest) :
    e.Goes { e with state := .fetching, requests := l } :=
  ⟨rfl, rfl, nofun, fun hw => ⟨hw.bound, nofun, fun _ => h, nofun,
    hw.report⟩⟩

/-- A report written is discarded (R131). -/
theorem Engine.Goes.discards : e.Goes { e with report := none, phase := none } :=
  .of_state rfl rfl id id (fun h => ⟨h, rfl⟩) fun _ h => by cases h

/-! ### Command head writes that wait (R123) -/

/-- The bounds check of a command head write (R123). -/
def withinRing (e : Engine) (v : Index) : Bool :=
  distance v e.head ≤ distance v e.tail && distance v e.tail ≤ 32

theorem withinRing_iff {v : Index} :
    withinRing e v = true ↔ distance v e.head ≤ distance v e.tail ∧ distance v e.tail ≤ 32 := by
  simp [withinRing]

/-- A waiting marked head write is the managing port's and within its bounds (R123). -/
def HeadFits (s : State) (p : Port) (x : InFlight) : Prop :=
  x.mark = some .commandHead → p = s.mgmt ∧ writesIndex x.request.access (withinRing s.engine) = true

theorem HeadFits.of_mark {x : InFlight} (h : x.mark ≠ some .commandHead) : HeadFits s p x := fun hm => absurd hm h

/-- R124's invariant once RESET is released: the engine, the managing port's list in INIT, and every list. -/
structure CommandRing (s : State) : Prop where
  released : s.resetLine = false
  engine : s.engine.Within
  init : s.engine.state = .init → s.inFlight s.mgmt = []
  lists : ∀ p, OnceWaiting (s.inFlight p) ∧ ∀ x ∈ s.inFlight p, x.isEligible = true → HeadFits s p x

theorem engineSound_iff (hl : s.resetLine = false) : EngineSound s ↔ CommandRing s := by
  have hlists : (OneWaiting s ∧ bothPorts fun p => eligibleMeets s p (HeadFits s p)) ↔
      ∀ p, OnceWaiting (s.inFlight p) ∧ ∀ x ∈ s.inFlight p, x.isEligible = true → HeadFits s p x := by
    refine (and_congr oneWaiting_iff bothPorts_iff).trans (forall_and.symm.trans (forall_congr' fun p => ?_))
    exact and_congr_right fun hw => eligibleMeets_iff hw
  constructor
  · rintro ⟨hw, -, hbound, hinit, hbusy, hcur, hrep, hheads⟩
    exact ⟨hl, ⟨hbound, fun h => (hinit h).1, hbusy, hcur, hrep⟩, fun h => (hinit h).2, hlists.1 ⟨hw, hheads⟩⟩
  · rintro ⟨-, ⟨hbound, hnone, hbusy, hcur, hrep⟩, hinit, hl'⟩
    obtain ⟨hw, hheads⟩ := hlists.2 hl'
    exact ⟨hw, fun h => by simp [hl] at h, hbound, fun h => ⟨hnone h, hinit h⟩, hbusy, hcur, hrep, hheads⟩

/-! ### Calm changes -/

/-- From `s` to `t` the engine goes on with its head and tail where they are, no request joins a port's list, and RESET
and the managing port stay. -/
structure Calm (s t : State) : Prop where
  line : t.resetLine = s.resetLine
  mgmt : t.mgmt = s.mgmt
  engine : s.engine.Goes t.engine
  length : ∀ p, (t.inFlight p).length ≤ (s.inFlight p).length

/-- The lists change without the forwarding of a marked request while the engine goes on. -/
theorem CommandRing.goes (hs : CommandRing s) (lists : ∀ p, QuietList (s.inFlight p) (t.inFlight p))
    (line : t.resetLine = s.resetLine) (mgmt : t.mgmt = s.mgmt) (engine : s.engine.Goes t.engine)
    (init : t.engine.state = .init → s.inFlight s.mgmt = [] → t.inFlight s.mgmt = []) : CommandRing t := by
  refine ⟨line.trans hs.released, engine.within hs.engine, fun hi => ?_, fun p => ?_⟩
  · rw [mgmt]
    exact init hi (hs.init (engine.init hi))
  · obtain ⟨hw, hfits⟩ := hs.lists p
    refine ⟨(lists p).once hw, fun x hx hel => ?_⟩
    rcases (lists p).marks hw x hx hel with hx' | hm
    · have hsame : withinRing t.engine = withinRing s.engine := by
        unfold withinRing
        rw [engine.head, engine.tail]
      intro hm
      rw [mgmt, hsame]
      exact hfits x hx' hel hm
    · exact .of_mark (by simp [hm])

theorem Calm.empty (h : Calm s t) (hs : s.inFlight p = []) : t.inFlight p = [] :=
  List.eq_nil_of_length_eq_zero (Nat.le_zero.1 (by simpa [hs] using h.length p))

theorem CommandRing.calm (hs : CommandRing s) (lists : ∀ p, QuietList (s.inFlight p) (t.inFlight p)) (h : Calm s t) :
    CommandRing t := hs.goes lists h.line h.mgmt h.engine fun _ => h.empty

theorem Calm.trans (h : Calm s t) (h' : Calm t u) : Calm s u :=
  ⟨h'.line.trans h.line, h'.mgmt.trans h.mgmt, h.engine.trans h'.engine, fun p => (h'.length p).trans (h.length p)⟩

/-- RESET, the managing port and the engine are the same. -/
@[simp] def SameEngine (s t : State) : Prop := t.resetLine = s.resetLine ∧ t.mgmt = s.mgmt ∧ t.engine = s.engine

theorem Calm.of_lists (same : SameEngine s t) (length : ∀ p, (t.inFlight p).length ≤ (s.inFlight p).length) :
    Calm s t :=
  have ⟨line, mgmt, engine⟩ := same
  ⟨line, mgmt, engine ▸ .refl _, length⟩

theorem Calm.of_same (ports : t.ports = s.ports) (same : SameEngine s t) : Calm s t :=
  .of_lists same fun p => by simp only [State.inFlight, ports, le_refl]

theorem Calm.refl (s : State) : Calm s s := .of_same rfl (by simp)

theorem Calm.of_goes (ports : t.ports = s.ports) (line : t.resetLine = s.resetLine) (mgmt : t.mgmt = s.mgmt)
    (engine : s.engine.Goes t.engine) : Calm s t :=
  ⟨line, mgmt, engine, fun p => by simp only [State.inFlight, ports, le_refl]⟩

theorem Calm.setEngine (h : s.engine.Goes e) : Calm s (s.setEngine e) := .of_goes rfl rfl rfl h

theorem Calm.setInFlight {l : List InFlight} (h : l.length ≤ (s.inFlight p).length) : Calm s (s.setInFlight p l) := by
  refine .of_lists (by simp) fun q => ?_
  by_cases hq : q = p
  · subst hq
    simpa using h
  · exact (congrArg List.length (State.inFlight_setInFlight_ne s l hq)).le

theorem length_updateFirst {α : Type} (test : α → Bool) (f : α → α) (l : List α) :
    (updateFirst test f l).length = l.length := by
  induction l with
  | nil => rfl
  | cons x xs ih =>
    rw [updateFirst]
    split <;> simp [ih]

theorem Calm.changeEntry (p : Port) (test : InFlight → Bool) (f : InFlight → InFlight) :
    Calm s (changeEntry p test f s) := .setInFlight (length_updateFirst ..).le

theorem Calm.mapList (p : Port) (f : InFlight → InFlight) : Calm s (s.setInFlight p ((s.inFlight p).map f)) :=
  .setInFlight (List.length_map ..).le

/-! ### Shared operations -/

theorem Calm.raiseRing (r : RingId) (k : RingKind) : Calm s (raiseRing r k s) := .of_same (by simp) (by simp)

theorem Calm.raiseDevice (p : Port) (k : DeviceKind) : Calm s (raiseDevice p k s) := .of_same (by simp) (by simp)

theorem Calm.chargeViolation (r : RingId) (k : ViolationKind) (p : Port) (addr : Word) :
    Calm s (chargeViolation r k p addr s) := .of_same (by simp) (by simp)

theorem Calm.setRing (r : RingId) (x : RingEntry) : Calm s (s.setRing r x) := .of_same rfl (by simp)

theorem Calm.setHold (p : Port) (h : Option HoldSlot) : Calm s (s.setHold p h) := .of_same rfl (by simp)

theorem Calm.setUnit (p : Port) (v : Option NoticeUnit) : Calm s (s.setUnit p v) := .of_same rfl (by simp)

theorem Calm.setJob (j : Option NoticeJob) : Calm s (s.setJob j) := .of_same rfl (by simp)

theorem Calm.setOutstanding (l : List OutEntry) : Calm s (s.setOutstanding l) := .of_same rfl (by simp)

theorem Calm.releaseHeld (p : Port) : Calm s (releaseHeld p s) := (Calm.setHold p none).trans (.changeEntry ..)

theorem Calm.refuseHeld (p : Port) : Calm s (refuseHeld p s) := (Calm.setHold p none).trans (.changeEntry ..)

theorem Calm.releaseHeldOn (r : RingId) : Calm s (releaseHeldOn r s) := by
  unfold Machine.releaseHeldOn
  split
  · exact .refl s
  · exact .releaseHeld _

theorem Calm.retestHeld (r : RingId) : Calm s (retestHeld r s) := by
  unfold Machine.retestHeld
  split
  · split
    · split
      · exact .releaseHeld _
      · exact .refl s
    · exact .refl s
  · exact .refl s

theorem Calm.unstallAll : Calm s (unstallAll s) := (Calm.mapList ..).trans (.mapList ..)

theorem Calm.unitOff (p : Port) : Calm s (unitOff p s) := (Calm.setUnit p none).trans (.mapList ..)

/-- A ring's body changes and the write held on it is released (R58, R82). -/
theorem Calm.leaveTracking (r : RingId) (b : RingBody) :
    Calm s (Machine.releaseHeldOn r (Machine.dropAppliedMarks r (s.setBody r b))) :=
  (Calm.setRing r _).trans ((Calm.setOutstanding _).trans (.releaseHeldOn r))

theorem Calm.faultEntry (r : RingId) (cause : FaultCause) : Calm s (faultEntry r cause s) := by
  unfold Machine.faultEntry
  split
  · split
    · exact (Calm.leaveTracking r _).trans (.raiseRing ..)
    · exact .refl s
  · exact .refl s

/-! ### The engine (R127, R129 to R134) -/

theorem Calm.presentEngine (q : EngineRequest) : Calm s (presentEngine q s) := .setEngine (.requests ..)

theorem Calm.fetchOrIdle : Calm s (fetchOrIdle s) := by
  rw [fetchOrIdle_eq]
  split
  · exact .setEngine (.rests rfl (by simp) ..)
  · exact .setEngine (.fetching ‹_› _)

theorem Calm.restartEngine : Calm s (restartEngine s) := by
  unfold Machine.restartEngine
  dsimp only
  split
  · exact (Calm.presentEngine _).trans ((Calm.setEngine (.rests rfl (by simp) ..)).trans (.presentEngine _))
  · exact (Calm.presentEngine _).trans .fetchOrIdle

theorem Calm.haltEngine (info : HaltInfo) : Calm s (haltEngine info s) :=
  (Calm.setEngine (.rests rfl (by simp) ..)).trans
    ((Calm.setOutstanding _).trans ((Calm.presentEngine _).trans (.raiseDevice ..)))

/-- A report of the current command while the engine has it. -/
theorem Calm.report (h : s.engine.state.hasCommand = true) (status : CommandStatus) (words : Params) :
    Calm s (report status words s) := by
  cases hc : s.engine.current with
  | none =>
    simp only [Machine.report, hc]
    exact .refl s
  | some c =>
    rw [report_of_current hc]
    exact .of_goes rfl rfl rfl (.reports h hc ..)

theorem Calm.settleWait (w : EngineWait) (status : CommandStatus) (words : Params) :
    Calm s (settleWait w status words s) := by
  unfold Machine.settleWait
  split
  · rename_i h
    exact .report (by rw [h]; rfl) ..
  · exact .refl s

theorem Calm.drainTest (r : RingId) : Calm s (drainTest r s) := by
  rcases drainTest_cases r s with h | ⟨b, rec, -, -, -, h⟩ <;> rw [h]
  · exact .refl s
  · exact (Calm.setRing ..).trans (.presentEngine _)

theorem Calm.drainTestSeeding : Calm s (drainTestSeeding s) := by
  unfold Machine.drainTestSeeding
  split
  · exact .drainTest _
  · exact .refl s

end Sys2Proof.Machine
end

section
/-! SUPPORT. The engine's commands (08), memory's responses (R174, R175), the notice writer (06), presentations (R164 to
R169) and the time base (R67) are calm: none moves the engine's head or tail, and none adds a request to a list. -/

namespace Sys2Proof.Machine

variable {s t u : State} {p : Port}

/-! ### Executing (R129, R137) -/

theorem EngineState.hasCommand_of_executing {st : EngineState} (h : st = .executing) : st.hasCommand = true := by
  rw [h]
  rfl

/-- A command finishes at once: the engine has it still (R129). -/
theorem Calm.finish (h : Calm s t) (hx : t.engine.state = .executing) (status : CommandStatus) :
    Calm s (finish status t) := h.trans (.report (EngineState.hasCommand_of_executing hx) ..)

theorem Calm.fails (hx : s.engine.state = .executing) (status : CommandStatus) : Calm s (Machine.finish status s) :=
  (Calm.refl s).finish hx status

theorem state_of_executing {c : CurrentCommand} (h : executing s = some c) : s.engine.state = .executing := by
  unfold executing at h
  split at h
  · assumption
  · cases h

/-- A command is performed by an EXECUTING engine alone (R129). -/
theorem Calm.performing {k : CommandCode} {act : SlotWords → State → State}
    (h : s.engine.state = .executing → ∀ w, Calm s (act w s)) : Calm s (performing k act s) := by
  unfold Machine.performing
  split
  · rename_i c hc
    split
    · exact h (state_of_executing hc) _
    · exact .refl s
  · exact .refl s

theorem Calm.performRing {k : CommandCode} {allowed : RingEntry → Bool} {act : SlotWords → RingId → State → State}
    (h : s.engine.state = .executing → ∀ w r, Calm s (act w r s)) :
    Calm s (Machine.performing k (fun w => ringCommand allowed (act w) w) s) :=
  .performing fun hx w => ringCommand_ind (.fails hx) (h hx w)

theorem Calm.performBody {k : CommandCode} {allowed : RingEntry → Bool}
    {act : SlotWords → RingId → RingBody → State → State}
    (h : s.engine.state = .executing → ∀ w r b, Calm s (act w r b s)) :
    Calm s (Machine.performing k (fun w => ringCommand allowed (fun r => onBody (act w r) r) w) s) :=
  .performRing fun hx w r => onBody_ind (.fails hx) (h hx w r)

/-! ### Ring commands (R140 to R155, R159) -/

theorem Calm.execBadCommand (h : execBadCommand s = .next t) : Calm s t := by
  obtain rfl := Host.Outcome.next.inj h
  split
  · rename_i c hc
    split
    · exact .fails (state_of_executing hc) _
    · exact .refl s
  · exact .refl s

theorem Calm.forgetNotices (r : RingId) : Calm s (forgetNotices r s) := .of_same (by simp) (by simp)

theorem Calm.execDefineRing (h : execDefineRing s = .next t) : Calm s t := by
  obtain rfl := Host.Outcome.next.inj h
  refine .performRing fun hx w r => ?_
  split
  · exact .fails hx _
  · split
    · exact ((Calm.forgetNotices r).trans (.setRing r _)).finish (by simpa [startAfresh] using hx) _
    · exact .fails hx _

theorem Calm.execReleaseRing (h : execReleaseRing s = .next t) : Calm s t := by
  obtain rfl := Host.Outcome.next.inj h
  exact .performRing fun hx _ r => ((Calm.forgetNotices r).trans (.setRing r _)).finish (by simpa using hx) _

theorem Calm.beginSeeding (hx : s.engine.state = .executing) (r : RingId) (b : RingBody) (purpose : SeedPurpose) :
    Calm s (beginSeeding r b purpose s) := by
  have hwait : s.engine.Goes { s.engine with state := .waiting (.seeding r) } :=
    .waits (EngineState.hasCommand_of_executing hx) _
  refine Calm.trans ?_ (.drainTest r)
  exact .of_goes rfl rfl rfl hwait

theorem Calm.execArmRing (h : execArmRing s = .next t) : Calm s t := by
  obtain rfl := Host.Outcome.next.inj h
  exact .performBody fun hx _ r b => .beginSeeding hx r b _

theorem Calm.execDisarmRing (h : execDisarmRing s = .next t) : Calm s t := by
  obtain rfl := Host.Outcome.next.inj h
  exact .performBody fun hx _ r b => (Calm.leaveTracking r _).finish (by simpa using hx) _

theorem Calm.execClearFault (h : execClearFault s = .next t) : Calm s t := by
  obtain rfl := Host.Outcome.next.inj h
  refine .performBody fun hx _ r b => ?_
  split
  · exact .beginSeeding hx r b _
  · exact .refl s

theorem Calm.execSetMarks (h : execSetMarks s = .next t) : Calm s t := by
  obtain rfl := Host.Outcome.next.inj h
  refine .performBody fun hx _ r b => ?_
  split
  · exact .fails hx _
  · exact (Calm.setRing r _).finish hx _

theorem Calm.settleHeldByGuard (r : RingId) (g : GuardMode) : Calm s (settleHeldByGuard r g s) := by
  unfold Machine.settleHeldByGuard
  split
  · exact .refl s
  · split
    · exact .refl s
    · exact (Calm.releaseHeld _).trans (.chargeViolation ..)
    · exact (Calm.refuseHeld _).trans (.chargeViolation ..)

theorem Calm.execSetGuard (h : execSetGuard s = .next t) : Calm s t := by
  obtain rfl := Host.Outcome.next.inj h
  refine .performBody fun hx _ r b => ?_
  split
  · exact .fails hx _
  · exact ((Calm.setRing r _).trans (.settleHeldByGuard r _)).finish (by simpa using hx) _

theorem Calm.moveNotify (r : RingId) (b : RingBody) (p : Port) (m : KindSet) : Calm s (moveNotify r b p m s) := by
  unfold Machine.moveNotify
  dsimp only
  split
  · exact .of_same (by simp) (by simp)
  · split <;> exact .of_same (by simp) (by simp)

theorem Calm.execSetNotify (h : execSetNotify s = .next t) : Calm s t := by
  obtain rfl := Host.Outcome.next.inj h
  refine .performBody fun hx _ r b => ?_
  split
  · exact .fails hx _
  · exact (Calm.moveNotify r b _ _).finish (by simpa using hx) _

theorem Calm.execResetCounts (h : execResetCounts s = .next t) : Calm s t := by
  obtain rfl := Host.Outcome.next.inj h
  exact .performRing fun hx _ r => (Calm.setRing r _).finish hx _

theorem Calm.execQueryRing (h : execQueryRing s = .next t) : Calm s t := by
  obtain rfl := Host.Outcome.next.inj h
  refine .performRing fun hx _ r => ?_
  have hc := EngineState.hasCommand_of_executing hx
  split
  · exact .fails hx _
  · exact .report hc ..
  · exact .report hc ..

theorem Calm.releaseAny (p : Port) : Calm s (releaseAny p s) := by
  unfold Machine.releaseAny
  split
  · exact .releaseHeld p
  · exact .refl s

theorem Calm.clearTable : Calm s (clearTable s) := by
  have hrelease : Calm s (Machine.releaseAny .b (Machine.releaseAny .a s)) :=
    (Calm.releaseAny .a).trans (.releaseAny .b)
  unfold Machine.clearTable
  exact hrelease.trans (.of_same (by simp) (by simp))

theorem Calm.execResetTable (h : execResetTable s = .next t) : Calm s t := by
  obtain rfl := Host.Outcome.next.inj h
  exact .performing fun hx _ => Calm.clearTable.finish (by simpa using hx) _

/-! ### Unit commands (R106, R108, R156 to R158) -/

theorem Calm.performUnit {k : CommandCode} {allowed : Option NoticeUnit → Bool} {act : SlotWords → Port → State → State}
    (h : s.engine.state = .executing → ∀ w p, Calm s (act w p s)) :
    Calm s (Machine.performing k (fun w => unitCommand allowed (act w) w) s) :=
  .performing fun hx w => unitCommand_ind (.fails hx) (h hx w)

theorem Calm.execSetupNotice (h : execSetupNotice s = .next t) : Calm s t := by
  obtain rfl := Host.Outcome.next.inj h
  refine .performUnit fun hx _ p => ?_
  have hc := EngineState.hasCommand_of_executing hx
  split
  · exact .fails hx _
  · split
    · exact (Calm.setUnit p _).trans ((Calm.mapList p InFlight.dropNoticeMark).trans (.setEngine (.waits hc _)))
    · exact .fails hx _

theorem Calm.closeUnit (hx : s.engine.state = .executing) (p : Port) : Calm s (closeUnit p s) := by
  have hc := EngineState.hasCommand_of_executing hx
  have hoff (words : Params) : Calm s (Machine.report .ok words (Machine.unitOff p s)) :=
    (Calm.unitOff p).trans (.report (by simpa using hc) ..)
  unfold Machine.closeUnit
  split
  · exact .refl s
  · split
    · exact hoff _
    · exact hoff _
    · exact (Calm.setUnit p _).trans (.setEngine (.waits hc _))
    · exact .refl s

theorem Calm.execNoticeOff (h : execNoticeOff s = .next t) : Calm s t := by
  obtain rfl := Host.Outcome.next.inj h
  exact .performUnit fun hx _ => .closeUnit hx

/-! ### Memory's responses (R36, R41 to R43, R126 to R134, R175) -/

theorem Calm.answered {isIt : Origin → Bool} {act : Origin → State → State} (h : ∀ o u, Calm u (act o u)) :
    Calm s (answered isIt act s) := by
  unfold Machine.answered
  split
  · exact .refl s
  · split
    · exact (Calm.setOutstanding _).trans (h _ _)
    · exact .refl s

theorem Calm.answerPort (p : Port) (serial : Nat) (ring : Option RingId) (applied : Bool) (status : MemStatus)
    (data : List Word) : Calm s (answerPort p serial ring applied status data s) := by
  unfold Machine.answerPort
  split
  · exact .refl s
  · dsimp only
    split
    · split
      · exact (Calm.changeEntry ..).trans (.faultEntry ..)
      · exact .changeEntry ..
    · exact .changeEntry ..

theorem Calm.execMemoryResponse {status : MemStatus} {data : List Word}
    (h : execMemoryResponse status data s = .next t) : Calm s t := by
  obtain rfl := Host.Outcome.next.inj h
  refine .answered fun o u => ?_
  split
  · exact .answerPort ..
  · exact .refl u

theorem Calm.execDiscardedResponse (h : execDiscardedResponse s = .next t) : Calm s t := by
  obtain rfl := Host.Outcome.next.inj h
  unfold dropResponse
  split
  · exact .refl s
  · split
    · exact .setOutstanding _
    · exact .refl s

theorem Calm.fillSeed (r : RingId) (w : IndexWord) (seed : Seed) : Calm s (fillSeed r w seed s) := by
  unfold Machine.fillSeed
  split
  · split
    · split
      · dsimp only
        split
        · exact ((Calm.setRing r _).trans .unstallAll).trans (.settleWait ..)
        · exact .setRing ..
      · exact .refl s
    · exact .refl s
  · exact .refl s

theorem Calm.execSeedResponse {status : MemStatus} {word : Word} (h : execSeedResponse status word s = .next t) :
    Calm s t := by
  obtain rfl := Host.Outcome.next.inj h
  refine .answered fun o u => ?_
  split
  · exact .fillSeed ..
  · exact .refl u

theorem Calm.execFetchResponse {status : MemStatus} {words : SlotWords}
    (h : execFetchResponse status words s = .next t) : Calm s t := by
  obtain rfl := Host.Outcome.next.inj h
  refine .answered fun _ u => ?_
  unfold fetched
  split
  · split
    · exact .setEngine (.fetched ‹_› _)
    · exact .haltEngine _
  · exact .refl u

theorem Calm.execReportBurstResponse {status : MemStatus} (h : execReportBurstResponse status s = .next t) :
    Calm s t := by
  obtain rfl := Host.Outcome.next.inj h
  refine .answered fun _ u => ?_
  unfold reportBurstAnswered
  split
  · split
    · exact (Calm.setEngine (.requests ..)).trans (.presentEngine _)
    · exact .haltEngine _
  · exact .refl u

theorem Calm.execReportTailResponse {status : MemStatus} (h : execReportTailResponse status s = .next t) :
    Calm s t := by
  obtain rfl := Host.Outcome.next.inj h
  refine .answered fun _ u => ?_
  unfold reportTailAnswered
  split
  · split
    · split
      · exact .setEngine .discards
      · exact .haltEngine _
    · exact .refl u
  · exact .refl u

/-- A response that changes nothing but the outstanding list (R126, R133, R134). -/
theorem Calm.answered_only (isIt : Origin → Bool) : Calm s (Machine.answered isIt (fun _ t => t) s) :=
  .answered fun _ u => .refl u

/-! ### The notice writer (R95, R107 to R111, R116) -/

theorem Calm.serve (p : Port) (w : NoticeWrite) (x : Access) : Calm s (serve p w x s) :=
  .of_same rfl (by simp [Machine.serve])

theorem Calm.execSetupJob (h : execSetupJob s = .next t) : Calm s t := by
  obtain rfl := Host.Outcome.next.inj h
  unfold serveSetup
  split
  · split
    · exact .serve ..
    · exact .refl s
  · exact .refl s

theorem Calm.setupAnswered (p : Port) (w : NoticeWrite) (status : MemStatus) : Calm s (setupAnswered p w status s) := by
  unfold Machine.setupAnswered
  split
  · exact .refl s
  · split
    · exact ((Calm.setJob none).trans (.unitOff p)).trans (.settleWait ..)
    · exact .setJob _
    · exact ((Calm.setUnit ..).trans (.setJob none)).trans (.settleWait ..)
    · exact .refl s

theorem Calm.execSetupWriteResponse {status : MemStatus} (h : execSetupWriteResponse status s = .next t) :
    Calm s t := by
  obtain rfl := Host.Outcome.next.inj h
  refine .answered fun o u => ?_
  split
  · exact .setupAnswered ..
  · exact .refl u

theorem Calm.takeRecord (p : Port) (n : NoticeUnit) (closing : Bool) (src : Source) :
    Calm s (takeRecord p n closing src s) := by
  have hempty : Calm s (dequeue src p (setPendingSet src p 0 s)) := .of_same (by simp) (by simp)
  exact hempty.trans ((Calm.setUnit ..).trans (.serve ..))

theorem Calm.execRecordTaking (h : execRecordTaking s = .next t) : Calm s t := by
  obtain rfl := Host.Outcome.next.inj h
  unfold serveRecord
  split
  · split
    · exact .takeRecord ..
    · exact .refl s
  · exact .refl s

theorem Calm.returnKinds (p : Port) (rec : RecordInFlight) : Calm s (returnKinds p rec s) := by
  rw [returnKinds_frame]
  exact .of_same rfl (by simp)

theorem Calm.failRecord (p : Port) (n : NoticeUnit) (rec : RecordInFlight) (closing : Bool) (f : FailingWrite) :
    Calm s (failRecord p n rec closing f s) := by
  have hback : Calm s (Machine.returnKinds p rec ((s.setUnit p (some { n with phase := .halted f })).setJob none)) :=
    ((Calm.setUnit ..).trans (.setJob none)).trans (.returnKinds ..)
  unfold Machine.failRecord
  dsimp only
  split
  · exact (hback.trans (.unitOff p)).trans (.settleWait ..)
  · exact hback

theorem Calm.completeRecord (p : Port) (n : NoticeUnit) (closing : Bool) : Calm s (completeRecord p n closing s) := by
  unfold Machine.completeRecord
  dsimp only
  split
  · exact ((Calm.setUnit ..).trans (.setJob none)).trans ((Calm.unitOff p).trans (.settleWait ..))
  · exact (Calm.setUnit ..).trans (.setJob none)

theorem Calm.recordAnswered (p : Port) (w : NoticeWrite) (status : MemStatus) :
    Calm s (recordAnswered p w status s) := by
  unfold Machine.recordAnswered
  split
  · exact .refl s
  · split
    · split
      · exact (Calm.setUnit ..).trans (.setJob _)
      · exact .failRecord ..
      · exact .completeRecord ..
      · exact .failRecord ..
      · exact .refl s
    · exact .refl s

theorem Calm.execRecordBurstResponse {status : MemStatus} (h : execRecordBurstResponse status s = .next t) :
    Calm s t := by
  obtain rfl := Host.Outcome.next.inj h
  refine .answered fun o u => ?_
  split
  · exact .recordAnswered ..
  · exact .refl u

theorem Calm.execNoticeHeadWriteResponse {status : MemStatus} (h : execNoticeHeadWriteResponse status s = .next t) :
    Calm s t := by
  obtain rfl := Host.Outcome.next.inj h
  refine .answered fun o u => ?_
  split
  · exact .recordAnswered ..
  · exact .refl u

/-! ### Presentations (R164 to R169) -/

/-- A counted violation, and the presented entry changed. -/
theorem Calm.charge (r : RingId) (k : ViolationKind) (addr : Word) (f : InFlight → InFlight) :
    Calm s (changePresented p f (Machine.chargeViolation r k p addr s)) :=
  (Calm.chargeViolation ..).trans (.changeEntry ..)

theorem Calm.presentIndexWrite (r : RingId) (w : IndexWord) (d : Descriptor) (head tail : Index) (addr : Word)
    (x : WriteWord) : Calm s (presentIndexWrite p r w d head tail addr x s) := by
  unfold Machine.presentIndexWrite
  split
  · exact .changeEntry ..
  · split
    · exact (Calm.chargeViolation ..).trans ((Calm.faultEntry ..).trans (.changeEntry ..))
    · exact .charge ..
    · exact .charge ..

theorem Calm.presentIndex (r : RingId) (w : IndexWord) (x : Access) : Calm s (presentIndex p r w x s) := by
  unfold Machine.presentIndex
  split
  · exact .changeEntry ..
  · split
    · exact .changeEntry ..
    · split
      · exact .presentIndexWrite ..
      · exact .changeEntry ..
    · exact .changeEntry ..
    · exact .changeEntry ..

theorem Calm.presentDataViolation (r : RingId) (d : Descriptor) (k : ViolationKind) (x : Access) :
    Calm s (presentDataViolation p r d k x s) := by
  unfold Machine.presentDataViolation
  split
  · exact .charge ..
  · exact .charge ..
  · split
    · unfold presentCandidate
      split
      · exact (Calm.setHold p _).trans (.changeEntry ..)
      · exact .charge ..
    · exact .charge ..

theorem Calm.presentData (r : RingId) (x : Access) : Calm s (presentData p r x s) := by
  unfold Machine.presentData
  split
  · exact .changeEntry ..
  · split
    · exact .changeEntry ..
    · split
      · exact .changeEntry ..
      · exact .presentDataViolation ..
    · exact .changeEntry ..
    · exact .changeEntry ..

theorem Calm.refuseWindowWrite (cls : AccessClass) (x : Access) : Calm s (refuseWindowWrite p cls x s) := by
  unfold Machine.refuseWindowWrite
  dsimp only
  split
  · exact (Calm.raiseDevice ..).trans (.changeEntry ..)
  · exact .changeEntry ..

theorem Calm.presentWindow (cls : AccessClass) (x : Access) : Calm s (presentWindow p cls x s) := by
  unfold Machine.presentWindow
  split
  · exact .changeEntry ..
  · split
    · exact .changeEntry ..
    · split
      · exact .changeEntry ..
      · split
        · split
          · exact .changeEntry ..
          · exact .refuseWindowWrite ..
        · exact .refuseWindowWrite ..

theorem Calm.presentNotice (cls : AccessClass) (x : Access) : Calm s (presentNotice p cls x s) := by
  unfold Machine.presentNotice
  split
  · exact .changeEntry ..
  · split
    · split
      · split <;> exact .changeEntry ..
      · exact .changeEntry ..
    · exact .changeEntry ..

theorem Calm.presentCrossing (x : Access) : Calm s (presentCrossing p x s) := by
  unfold Machine.presentCrossing
  split
  · exact .changeEntry ..
  · split
    · exact .refuseWindowWrite ..
    · split
      · exact .changeEntry ..
      · dsimp only
        split <;> exact .charge ..

theorem Calm.presentClassified (x : Access) : Calm s (presentClassified p x s) := by
  unfold Machine.presentClassified
  split
  · exact .changeEntry ..
  · exact .presentData ..
  · exact .presentIndex ..
  · exact .presentIndex ..
  · exact .presentWindow ..
  · exact .presentWindow ..
  · exact .presentNotice ..
  · exact .presentNotice ..
  · exact .presentNotice ..
  · exact .presentCrossing _

theorem Calm.present (p : Port) (s : State) : Calm s (present p s) := by
  unfold Machine.present
  split
  · split
    · exact .refl s
    · split
      · exact .changeEntry ..
      · exact .presentClassified _
  · exact .refl s

/-! ### Departure and the time base (R67, R77, R166) -/

theorem Calm.execResponseDeparture (h : execResponseDeparture p s = .next t) : Calm s t := by
  obtain rfl := Host.Outcome.next.inj h
  unfold depart
  split
  · exact .refl s
  · rename_i e rest he
    split
    · have hlist : Calm s (s.setInFlight p rest) := .setInFlight (by simp [he])
      exact hlist.trans (.of_same rfl (by simp))
    · exact .refl s

theorem Calm.expire (p : Port) : Calm s (expire p s) := by
  unfold Machine.expire
  split
  · exact .refl s
  · split
    · exact (Calm.refuseHeld p).trans ((Calm.setRing ..).trans (.raiseRing ..))
    · exact .refl s

theorem Calm.stepTime : Calm s (stepTime s) := by
  have htick : Calm s (tick s) := .of_same rfl (by simp [tick])
  unfold Machine.stepTime
  split
  · exact .refl s
  · exact htick.trans ((Calm.expire .a).trans (.expire .b))

theorem Calm.execHoldExpiry (h : execHoldExpiry p s = .next t) : Calm s t := by
  obtain rfl := Host.Outcome.next.inj h
  split
  · exact .stepTime
  · exact .refl s

end Sys2Proof.Machine
end

section
/-! Presentations (R122, R123) and grants (R124, R126, R131, R134) of the command ring, and the reset lines (R135, R176
to R179), keep the engine's head at most 32 ahead of its tail; so every step does (R124). -/

namespace Sys2Proof.Machine

variable {s t u : State} {p : Port} {e : Engine}

/-! ### Head and tail (R2, R123, R131) -/

theorem distance_left_inj {v x y : Index} : distance v x = distance v y ↔ x = y :=
  BitVec.toNat_inj.trans sub_right_inj

/-- A head write within its bounds leaves the head beyond the tail when it was so (R123). -/
theorem ne_of_withinRing {v : Index} (h : withinRing e v = true) (hne : e.head ≠ e.tail) : v ≠ e.tail := by
  rintro rfl
  obtain ⟨hle, -⟩ := withinRing_iff.1 h
  rw [distance_self, Nat.le_zero, ← distance_self e.tail] at hle
  exact hne (distance_left_inj.1 hle)

/-- The tail advances by one toward the head: one command fewer is left (R131). -/
theorem distance_tail_add_one {head tail : Index} (hne : head ≠ tail) :
    distance head (tail + 1) + 1 = distance head tail := by
  have hone : distance (tail + 1) tail = 1 := by simp [distance]
  have hpos : distance head tail ≠ 0 := fun h => hne (distance_left_inj.1 (h.trans (distance_self head).symm)).symm
  have hadv := distance_advance_tail (v := tail + 1) (head := head) (tail := tail) (by omega)
  rwa [hone] at hadv

/-- A head write that waits stays within its bounds when the tail advances by one (R123, R131). -/
theorem withinRing_tail_add_one {v : Index} (h : withinRing e v = true) (hne : e.head ≠ e.tail) :
    distance v e.head ≤ distance v (e.tail + 1) ∧ distance v (e.tail + 1) ≤ 32 := by
  obtain ⟨hle, hbound⟩ := withinRing_iff.1 h
  have hone := distance_tail_add_one (ne_of_withinRing h hne)
  have hlt : distance v e.head ≠ distance v e.tail := fun heq => hne (distance_left_inj.1 heq)
  omega

/-- The head moves by a write within its bounds (R123, R124). -/
theorem Engine.Within.moveHead (h : e.Within) {v : Index} (hv : withinRing e v = true) :
    ({ e with head := v } : Engine).Within where
  bound := (withinRing_iff.1 hv).2
  init := h.init
  busy hb := ne_of_withinRing (e := e) hv (h.busy hb)
  current := h.current
  report r hr := (h.report r hr).imp_right fun ⟨hi, hne⟩ => ⟨hi, ne_of_withinRing (e := e) hv hne⟩

/-- The index after a report's: the tail, or the one after it while commands are left (R131, R132). -/
theorem Engine.Within.report_cases (h : e.Within) {r : PendingReport} (hr : e.report = some r) :
    r.index + 1 = e.tail ∨ r.index + 1 = e.tail + 1 ∧ e.head ≠ e.tail :=
  (h.report r hr).imp_right fun ⟨hi, hne⟩ => ⟨by rw [hi], hne⟩

/-- The tail passes the command whose report is written, which is no longer current (R131). -/
theorem Engine.Within.moveTail (h : e.Within) {r : PendingReport} (hr : e.report = some r)
    (hst : e.state = .reporting) : ({ e with tail := r.index + 1, current := none } : Engine).Within := by
  refine ⟨?_, h.init, fun hb => ?_, nofun, fun r' hr' => ?_⟩
  · rcases h.report_cases hr with heq | ⟨heq, hne⟩ <;> rw [heq]
    · exact h.bound
    · calc distance e.head (e.tail + 1)
        _ ≤ distance e.head e.tail := (distance_tail_add_one hne).symm ▸ Nat.le_succ _
        _ ≤ 32 := h.bound
  · have hb' : e.state.inProgress = true := hb
    rw [hst] at hb'
    cases hb'
  · obtain rfl : r = r' := Option.some.inj (hr.symm.trans hr')
    exact .inl rfl

/-! ### Command head writes presented and granted (R123, R124, R134) -/

theorem CommandRing.forwardMarked (hs : CommandRing s) (hw : NoneWaiting s p) {x : InFlight}
    (hq : oldestQueued s p = some x) (cls : AccessClass) {m : ApplyMark} (hm : CheckedMark s p x m) :
    CommandRing (forwardPresented p cls (some m) s) := by
  have hcalm : Calm s (forwardPresented p cls (some m) s) := .changeEntry ..
  refine ⟨hcalm.line.trans hs.released, hcalm.engine.within hs.engine, fun hi => hcalm.empty (hs.init hi), fun q => ?_⟩
  by_cases hqp : q = p
  · subst hqp
    rw [forwardPresented, changePresented, changeEntry, State.inFlight_setInFlight_self]
    refine ⟨.updateFirst hw fun _ h => by simp [InFlight.isHeld] at h, fun y hy hel => ?_⟩
    rcases mem_updateFirst hy with hy | ⟨x', hx', rfl⟩
    · exact (hs.lists q).2 y hy hel
    · obtain rfl : x = x' := Option.some.inj (hq.symm.trans hx')
      cases m with
      | commandHead =>
        obtain ⟨hp, w, hw, hvalid⟩ := hm
        refine fun _ => ⟨hp, ?_⟩
        rw [writesIndex_of hw]
        exact (Bool.and_eq_true_iff.1 hvalid).2
      | ringIndex r w => exact .of_mark (by simp)
      | noticeTail => exact .of_mark (by simp)
  · have hl : (forwardPresented p cls (some m) s).inFlight q = s.inFlight q := State.inFlight_setInFlight_ne _ _ hqp
    rw [hl]
    exact hs.lists q

theorem CommandRing.execPresentation (hs : CommandRing s) (h : execPresentation p s = .next t) : CommandRing t := by
  obtain rfl := Host.Outcome.next.inj h
  have hcalm := Calm.present p s
  rcases present_cases p s with hsame | ⟨x, hq, hw, hto⟩
  · rwa [hsame]
  · generalize Machine.present p s = t at hto hcalm
    cases hto with
    | quiet hquiet => exact hs.calm hquiet.lists hcalm
    | marked cls hm => exact hs.forwardMarked hw hq cls hm

/-- An applied head write moves the head within the ring, while no other head write waits (R123, R124). -/
theorem CommandRing.applyHead (hs : CommandRing s)
    (gone : ∀ q, ∀ y ∈ s.inFlight q, y.isEligible = true → y.mark ≠ some .commandHead) {v : Index}
    (hv : withinRing s.engine v = true) : CommandRing (applyHead v s) := by
  have hmoved : CommandRing (s.setEngine { s.engine with head := v }) :=
    ⟨hs.released, hs.engine.moveHead hv, hs.init, fun q => ⟨(hs.lists q).1, fun y hy hel => .of_mark (gone q y hy hel)⟩⟩
  unfold Machine.applyHead
  dsimp only
  split
  · exact hmoved.calm Quiet.fetchOrIdle.lists .fetchOrIdle
  · exact hmoved.calm Quiet.restartEngine.lists .restartEngine
  · exact hmoved

theorem Calm.markCrossing (r : RingId) (b : RingBody) (before after : Nat) :
    Calm s (markCrossing r b before after s) := by
  have hraise (c : Prop) [Decidable c] (k : RingKind) (v : State) :
      Calm v (if c then Machine.raiseRing r k v else v) := by
    split
    · exact .raiseRing ..
    · exact .refl v
  exact (hraise ..).trans (hraise ..)

theorem Calm.applyIndex (r : RingId) (w : IndexWord) (v : Index) : Calm s (applyIndex r w v s) := by
  unfold Machine.applyIndex
  split
  · split
    · split
      · exact (Calm.setRing ..).trans (.markCrossing ..)
      · exact ((Calm.setRing ..).trans (.markCrossing ..)).trans (.retestHeld r)
    · exact .refl s
  · exact .refl s

theorem Calm.observeIndex (q : Port) (r : RingId) (w : IndexWord) (x : WriteWord) :
    Calm s (observeIndex q r w x s) := by
  have hrecovery (b : RingBody) (f : FaultRecord) (oh ot : Option Index) :
      Calm s (quiesceRecovery r b f oh ot s) := by
    unfold quiesceRecovery
    split
    · split
      · exact (Calm.setRing ..).trans (.raiseRing ..)
      · exact .setRing ..
    · exact .setRing ..
  unfold Machine.observeIndex
  split
  · split
    · split
      · split <;> exact hrecovery ..
      · exact .refl s
    · exact .refl s
  · exact .refl s

/-- The grant of a request that is no command head write leaves head and tail where they are (R173). -/
theorem Calm.grantEffect {x : InFlight} (hm : x.mark ≠ some .commandHead) (p : Port) : Calm s (grantEffect p x s) := by
  unfold Machine.grantEffect
  split
  · exact .refl s
  · split
    · unfold applyNoticeTail
      split
      · exact .setUnit ..
      · exact .refl s
    · exact absurd ‹_› hm
    · split
      · exact .applyIndex ..
      · exact .observeIndex ..
    · split
      · exact .observeIndex ..
      · exact .refl s

theorem grantEffect_lists (p : Port) (x : InFlight) (s : State) (q : Port) :
    QuietList (s.inFlight q) ((grantEffect p x s).inFlight q) := by
  rcases grantEffect_cases p x s with hquiet | ⟨w, -, -, heq⟩
  · exact hquiet.lists q
  · rw [heq, applyNoticeTail]
    split <;> exact .refl _

theorem Calm.handOver (q : Requester) (o : Origin) (x : Access) : Calm s (handOver q o x s) :=
  .of_same rfl (by simp [Machine.handOver])

/-- The grant of the head write applies it: it was checked against the head and tail as they stand (R123, R124). -/
theorem CommandRing.grantHead (hs : CommandRing s) {x : InFlight} (he : eligibleEntry s p = some x)
    (hm : x.mark = some .commandHead) : CommandRing (grantEffect p x
      (changeEntry p InFlight.isEligible (fun e => { e with stage := .granted }) s)) := by
  set granted := Machine.changeEntry p InFlight.isEligible (fun e => { e with stage := .granted }) s with hgr
  obtain ⟨hw, hfits⟩ := hs.lists p
  obtain ⟨hp, hx⟩ := hfits x (List.mem_of_find?_eq_some he) (List.find?_some he) hm
  have hgranted : CommandRing granted :=
    hs.calm (Quiet.changeEntry fun _ _ => .leaves rfl).lists (.changeEntry ..)
  have hgone : ∀ q, ∀ y ∈ granted.inFlight q, y.isEligible = true → y.mark ≠ some .commandHead := by
    intro q y hy hel hmark
    obtain rfl : q = p := ((hgranted.lists q).2 y hy hel hmark).1.trans hp.symm
    simp [inFlight_granted hw he y hy] at hel
  unfold Machine.grantEffect
  split
  · exact hgranted
  · rename_i w hwrite
    rw [writesIndex_of hwrite] at hx
    simp only [hm]
    exact hgranted.applyHead hgone hx

theorem CommandRing.grantPort (hs : CommandRing s) {x : InFlight} (he : eligibleEntry s p = some x) :
    CommandRing (grantPort p x s) := by
  have hgranted : CommandRing
      (Machine.changeEntry p InFlight.isEligible (fun e => { e with stage := .granted }) s) :=
    hs.calm (Quiet.changeEntry fun _ _ => .leaves rfl).lists (.changeEntry ..)
  have heffect : CommandRing (Machine.grantEffect p x
      (Machine.changeEntry p InFlight.isEligible (fun e => { e with stage := .granted }) s)) := by
    by_cases hm : x.mark = some .commandHead
    · exact hs.grantHead he hm
    · exact hgranted.calm (grantEffect_lists p x _) (.grantEffect hm p)
  exact heffect.calm (Quiet.drainTestSeeding.trans (.handOver ..)).lists (Calm.drainTestSeeding.trans (.handOver ..))

/-- The managing port's list is empty, and the engine starts afresh. -/
theorem CommandRing.afresh (hs : CommandRing s) (hnil : s.inFlight s.mgmt = []) (ports : t.ports = s.ports)
    (line : t.resetLine = s.resetLine) (mgmt : t.mgmt = s.mgmt) (engine : t.engine.Within) : CommandRing t := by
  have hlist (p : Port) : t.inFlight p = s.inFlight p := by simp only [State.inFlight, ports]
  refine ⟨line.trans hs.released, engine, fun _ => by rw [mgmt, hlist, hnil], fun p => ?_⟩
  obtain ⟨hw, hfits⟩ := hs.lists p
  rw [hlist]
  refine ⟨hw, fun x hx hel hm => ?_⟩
  obtain ⟨rfl, -⟩ := hfits x hx hel hm
  rw [hnil] at hx
  cases hx

/-- The initialisation burst starts the ring afresh, with no head write of the managing port waiting (R126, R163). -/
theorem CommandRing.initialise (hs : CommandRing s) (hi : s.engine.state = .init) :
    CommandRing { s with windowMapped := true, engine := { s.engine with state := .idle, head := 0, tail := 0 } } := by
  have hnone : s.engine.report = none := hs.engine.init hi
  refine hs.afresh (hs.init hi) rfl rfl rfl ⟨(distance_self 0).trans_le (Nat.zero_le _), nofun, nofun, nofun, ?_⟩
  intro r hr
  cases hnone.symm.trans hr

/-- The report's tail write passes the command: a head write that waits stays within its bounds (R123, R131). -/
theorem CommandRing.moveTail (hs : CommandRing s) (hst : s.engine.state = .reporting) {r : PendingReport}
    (hr : s.engine.report = some r) :
    CommandRing (s.setEngine { s.engine with tail := r.index + 1, current := none }) := by
  refine ⟨hs.released, hs.engine.moveTail hr hst, hs.init, fun p => ?_⟩
  obtain ⟨hw, hfits⟩ := hs.lists p
  refine ⟨hw, fun x hx hel hm => ?_⟩
  obtain ⟨hp, hin⟩ := hfits x hx hel hm
  refine ⟨hp, writesIndex_mono (fun v hv => ?_) hin⟩
  rcases hs.engine.report_cases hr with heq | ⟨heq, hne⟩ <;> simp only [State.setEngine_engine, heq]
  · exact hv
  · exact withinRing_iff.2 (withinRing_tail_add_one hv hne)

theorem CommandRing.engineGrantEffect (hs : CommandRing s) (k : EngineAccess) :
    CommandRing (engineGrantEffect k s) := by
  unfold Machine.engineGrantEffect
  split
  · split
    · exact hs.initialise ‹_›
    · exact hs
  · split
    · exact (hs.moveTail ‹_› ‹_›).calm Quiet.fetchOrIdle.lists .fetchOrIdle
    · exact hs
  · split
    · exact hs.calm (Quiet.presentEngine _).lists (.presentEngine _)
    · exact hs
  all_goals exact hs

theorem CommandRing.execGrant (hs : CommandRing s) (h : execGrant s = .next t) : CommandRing t := by
  obtain rfl := Host.Outcome.next.inj h
  unfold arbitrate
  split
  · unfold grantTo
    split
    · split
      · exact hs.grantPort ‹_›
      · exact hs
    · split
      · rename_i q rest _
        have hleft : CommandRing (s.setEngine { s.engine with requests := rest }) :=
          hs.calm (Quiet.setEngine _).lists (.setEngine (.requests ..))
        exact (hleft.engineGrantEffect _).calm (Quiet.handOver ..).lists (.handOver ..)
      · exact hs
    · split
      · exact hs.calm ((Quiet.setJob _).trans (.handOver ..)).lists ((Calm.setJob _).trans (.handOver ..))
      · exact hs
  · exact hs

/-! ### Acceptance (R163) -/

/-- In INIT the managing port's requests are not accepted (R124, R135, R163). -/
theorem CommandRing.execAcceptance (hs : CommandRing s) {q : Request} (h : execAcceptance p q s = .next t) :
    CommandRing t := by
  have hquiet : Quiet s t := .execAcceptance h
  obtain rfl := Host.Outcome.next.inj h
  unfold accept at hquiet ⊢
  split at hquiet
  · rename_i hmay
    rw [if_pos hmay]
    refine hs.goes hquiet.lists rfl rfl (.refl _) fun hi hnil => ?_
    have hne : s.mgmt ≠ p := fun hp => by
      have hi' : s.engine.state = .init := hi
      simp [mayAccept, hp, hi'] at hmay
    rw [State.inFlight, PerPort.get_set_ne _ _ hne]
    exact hnil
  · rwa [if_neg ‹_›]

/-! ### The assertion of a port reset line (R135, R177, R178) -/

theorem Calm.abandonJob (p : Port) : Calm s (abandonJob p s) := .of_same (by simp) (by simp)

theorem Calm.resetUnit (p : Port) : Calm s (resetUnit p s) := by
  have hoff : Calm s (Machine.abandonJob p (Machine.unitOff p s)) := (Calm.unitOff p).trans (.abandonJob p)
  unfold Machine.resetUnit
  dsimp only
  split
  · exact hoff
  · exact (hoff.trans (.settleWait ..)).trans (.settleWait ..)

theorem Calm.faultTracking : Calm s (faultTracking s) := by
  have hfold (l : List RingId) (v : State) : Calm v (l.foldl (fun t r => Machine.faultEntry r .peerReset t) v) := by
    induction l generalizing v with
    | nil => exact .refl v
    | cons r l ih => exact (Calm.faultEntry ..).trans (ih _)
  have hcount : Calm s { s with freeCount := s.freeCount + 1 } := .of_same rfl (by simp)
  exact hcount.trans (hfold ..)

theorem Calm.discardRequests : Calm s (discardRequests p s) :=
  (Calm.setInFlight (Nat.zero_le _)).trans ((Calm.setOutstanding _).trans (.setHold p none))

theorem Calm.setPortReset (level : Bool) : Calm s (setPortReset p level s) :=
  .of_same rfl (by simp [Machine.setPortReset])

/-- The steps after the discards, which empty the reset port's list (R177). -/
theorem Calm.resetSteps : Calm (Machine.discardRequests p (Machine.setPortReset p true s)) (resetSteps p s) :=
  Calm.faultTracking.trans (Calm.trans (.of_same (by simp) (by simp)) (.resetUnit p))

theorem Quiet.resetSteps : Quiet s (resetSteps p s) := by
  have hdown : Quiet s (Machine.discardRequests p (Machine.setPortReset p true s)) :=
    (Quiet.setPortReset true).trans .discardRequests
  exact (hdown.trans .faultTracking).trans (Quiet.trans (.of_same (by simp) (by simp)) (.resetUnit p))

theorem Calm.abandonSeeding : Calm s (abandonSeeding s) := by
  rcases abandonSeeding_cases s with ⟨h, -⟩ | ⟨r, b, rec, -, -, -, h⟩ <;> rw [h]
  · exact .refl s
  · exact (Calm.setRing ..).trans .unstallAll

theorem Calm.abandonUnitWait : Calm s (abandonUnitWait s) := by
  unfold Machine.abandonUnitWait
  split
  · exact (Calm.unitOff _).trans (.abandonJob _)
  · exact .setUnit ..
  · exact .refl s

theorem Engine.Within.powerOn (l : List EngineRequest) : ({ Engine.powerOn with requests := l } : Engine).Within :=
  ⟨(distance_self 0).trans_le (Nat.zero_le _), fun _ => rfl, nofun, nofun, nofun⟩

theorem CommandRing.reinitEngine (hs : CommandRing s) (hnil : s.inFlight s.mgmt = []) :
    CommandRing (reinitEngine s) := by
  unfold Machine.reinitEngine
  split
  · exact hs
  · exact hs.afresh hnil rfl rfl rfl (.powerOn _)

/-- The managing port's reset starts the engine afresh, and leaves the port no request (R135, R177). -/
theorem CommandRing.portResetEnd (hs : CommandRing s) (p : Port) : CommandRing (portResetEnd p s) := by
  have hdown : Calm s (Machine.discardRequests p (Machine.setPortReset p true s)) :=
    (Calm.setPortReset true).trans .discardRequests
  have hsteps : CommandRing (Machine.resetSteps p s) := hs.calm Quiet.resetSteps.lists (hdown.trans .resetSteps)
  unfold Machine.portResetEnd
  split
  · rename_i hp
    have habandon : Calm (Machine.resetSteps p s) (abandonUnitWait (abandonSeeding (Machine.resetSteps p s))) :=
      Calm.abandonSeeding.trans .abandonUnitWait
    have hleft := hsteps.calm (Quiet.abandonSeeding.trans .abandonUnitWait).lists habandon
    have hgone : (Machine.discardRequests p (Machine.setPortReset p true s)).inFlight p = [] := by
      simp [Machine.discardRequests]
    have hmgmt := (hdown.trans (Calm.resetSteps.trans habandon)).mgmt
    have hnil := (Calm.resetSteps.trans habandon).empty hgone
    exact hleft.reinitEngine (by rw [hmgmt, ← hp, hnil])
  · exact hsteps.calm Quiet.drainTestSeeding.lists .drainTestSeeding

theorem CommandRing.execPortResetAssert (hs : CommandRing s) (h : execPortResetAssert p s = .next t) :
    CommandRing t := by
  cases hp : s.portReset.get p with
  | true =>
    obtain rfl := Host.Outcome.next.inj h
    rwa [assertPortReset, if_pos hp]
  | false =>
    have hnext := (execPortResetAssert_eq hp hs.released).symm.trans h
    exact Host.Outcome.next.inj hnext ▸ hs.portResetEnd p

/-! ### RESET (R176) -/

/-- While RESET is asserted no command but those of the reset lines changes anything (R176). -/
theorem exec_assertReset (u : State) {c : Instr} (hrelease : ∀ base p, c ≠ .resetRelease base p)
    (hassert : ∀ p, c ≠ .portResetAssert p) (hdeassert : ∀ p, c ≠ .portResetDeassert p) :
    exec c (assertReset u) = .next (assertReset u) := by
  cases c with
  | resetRelease base p => exact absurd rfl (hrelease base p)
  | portResetAssert p => exact absurd rfl (hassert p)
  | portResetDeassert p => exact absurd rfl (hdeassert p)
  | acceptance p q =>
    have hno : mayAccept (assertReset u) p = false := by simp [mayAccept, assertReset, State.reset]
    simp only [exec, execAcceptance, accept, hno, Bool.false_and, Bool.false_eq_true, if_false]
  | presentation p =>
    have hno : oldestQueued (assertReset u) p = none := by rw [oldestQueued, assertReset_inFlight]; rfl
    simp only [exec, execPresentation, present, hno, ite_self]
  | responseDeparture p => simp only [exec, execResponseDeparture, depart, assertReset_inFlight]
  | holdExpiry p => cases p <;> rfl
  | _ => rfl

theorem engineSound_of_reset (h : assertReset s = s) : EngineSound s := by
  have hreset : EngineSound State.reset := by decide
  obtain ⟨hw, -, hrest⟩ := hreset
  rw [← h]
  exact ⟨hw, fun _ => rfl, hrest⟩

/-- The release presents the initialisation burst to an engine at its power-on values, with both lists empty (R126,
R176). -/
theorem CommandRing.releaseReset (h : assertReset s = s) (ctlBase : BitVec 21) (mgmtSel : Port) :
    CommandRing (releaseReset ctlBase mgmtSel s) := by
  rw [← h]
  have hnil (p : Port) : (Machine.releaseReset ctlBase mgmtSel (assertReset s)).inFlight p = [] :=
    assertReset_inFlight s p
  refine ⟨rfl, .powerOn _, fun _ => hnil _, fun p => ?_⟩
  rw [hnil]
  exact ⟨⟨by simp, by simp⟩, by simp⟩

theorem EngineSound.exec_of_reset (h : assertReset s = s) {c : Instr} (hc : exec c s = .next t) : EngineSound t := by
  have hline (p : Port) (level : Bool) : EngineSound (setPortReset p level s) :=
    engineSound_of_reset (congrArg (setPortReset p level) h)
  by_cases hrelease : ∃ base p, c = .resetRelease base p
  · obtain ⟨base, p, rfl⟩ := hrelease
    have hring : CommandRing t := Host.Outcome.next.inj hc ▸ .releaseReset h base p
    exact (engineSound_iff hring.released).2 hring
  by_cases hassert : ∃ p, c = .portResetAssert p
  · obtain ⟨p, rfl⟩ := hassert
    obtain rfl := Host.Outcome.next.inj hc
    unfold assertPortReset
    split
    · exact engineSound_of_reset h
    · split
      · exact hline p true
      · rename_i hl
        exact absurd (h ▸ rfl) hl
  by_cases hdeassert : ∃ p, c = .portResetDeassert p
  · obtain ⟨p, rfl⟩ := hdeassert
    exact Host.Outcome.next.inj hc ▸ hline p false
  have hsame := exec_assertReset s (fun base p heq => hrelease ⟨base, p, heq⟩) (not_exists.1 hassert)
    (not_exists.1 hdeassert)
  rw [h, hc] at hsame
  exact Host.Outcome.next.inj hsame ▸ engineSound_of_reset h

/-! ### Every command and every step -/

/-- Once RESET is released, every command but a grant, an acceptance and the assertion of a reset line is calm. -/
theorem exec_calm {c : Instr} (haccept : ∀ p q, c ≠ .acceptance p q) (hgrant : c ≠ .grant)
    (hassert : c ≠ .resetAssert) (hport : ∀ p, c ≠ .portResetAssert p) (hl : s.resetLine = false)
    (h : exec c s = .next t) : Calm s t := by
  cases c with
  | acceptance p q => exact absurd rfl (haccept p q)
  | grant => exact absurd rfl hgrant
  | resetAssert => exact absurd rfl hassert
  | portResetAssert p => exact absurd rfl (hport p)
  | resetRelease base p =>
    obtain rfl := Host.Outcome.next.inj h
    rw [releaseReset, if_neg (by simp [hl])]
    exact .refl s
  | portResetDeassert => exact Host.Outcome.next.inj h ▸ .setPortReset _
  | presentation => exact Host.Outcome.next.inj h ▸ .present ..
  | memoryResponse => exact .execMemoryResponse h
  | discardedResponse => exact .execDiscardedResponse h
  | responseDeparture => exact .execResponseDeparture h
  | seedResponse => exact .execSeedResponse h
  | fetchResponse => exact .execFetchResponse h
  | reportBurstResponse => exact .execReportBurstResponse h
  | reportTailResponse => exact .execReportTailResponse h
  | initialisationBurstResponse => exact Host.Outcome.next.inj h ▸ .answered_only _
  | haltBurstResponse => exact Host.Outcome.next.inj h ▸ .answered_only _
  | restartStatusWriteResponse => exact Host.Outcome.next.inj h ▸ .answered_only _
  | badCommand => exact .execBadCommand h
  | defineRing => exact .execDefineRing h
  | releaseRing => exact .execReleaseRing h
  | armRing => exact .execArmRing h
  | disarmRing => exact .execDisarmRing h
  | clearFault => exact .execClearFault h
  | setMarks => exact .execSetMarks h
  | setGuard => exact .execSetGuard h
  | setNotify => exact .execSetNotify h
  | queryRing => exact .execQueryRing h
  | resetCounts => exact .execResetCounts h
  | setupNotice => exact .execSetupNotice h
  | noticeOff => exact .execNoticeOff h
  | resetTable => exact .execResetTable h
  | setupJob => exact .execSetupJob h
  | setupWriteResponse => exact .execSetupWriteResponse h
  | recordTaking => exact .execRecordTaking h
  | recordBurstResponse => exact .execRecordBurstResponse h
  | noticeHeadWriteResponse => exact .execNoticeHeadWriteResponse h
  | timeBaseStep => exact Host.Outcome.next.inj h ▸ .stepTime
  | holdExpiry => exact .execHoldExpiry h

/-- SETUP_NOTICE forwards no request (R106). -/
theorem execSetupNotice_lists (h : execSetupNotice s = .next t) (q : Port) :
    QuietList (s.inFlight q) (t.inFlight q) := by
  obtain rfl := Host.Outcome.next.inj h
  have hfails (status : CommandStatus) : QuietList (s.inFlight q) ((finish status s).inFlight q) :=
    (Quiet.fails status).lists q
  refine performing_ind (P := fun u => QuietList (s.inFlight q) (u.inFlight q)) (.refl _) fun w =>
    unitCommand_ind (P := fun u => QuietList (s.inFlight q) (u.inFlight q)) hfails fun p => ?_
  split
  · exact hfails _
  · split
    · have hdrop : Quiet s (dropNoticeMarks p s) := .setInFlight (.map _ EntryPasses.dropNoticeMark)
      exact hdrop.lists q
    · exact hfails _

theorem CommandRing.exec (hs : CommandRing s) {c : Instr} (hreset : c ≠ .resetAssert) (h : exec c s = .next t) :
    CommandRing t := by
  by_cases haccept : ∃ p q, c = .acceptance p q
  · obtain ⟨p, q, rfl⟩ := haccept
    exact hs.execAcceptance h
  by_cases hpresent : ∃ p, c = .presentation p
  · obtain ⟨p, rfl⟩ := hpresent
    exact hs.execPresentation h
  by_cases hgrant : c = .grant
  · subst hgrant
    exact hs.execGrant h
  by_cases hport : ∃ p, c = .portResetAssert p
  · obtain ⟨p, rfl⟩ := hport
    exact hs.execPortResetAssert h
  have hcalm : Calm s t :=
    exec_calm (fun p q heq => haccept ⟨p, q, heq⟩) hgrant hreset (not_exists.1 hport) hs.released h
  by_cases hsetup : c = .setupNotice
  · subst hsetup
    exact hs.calm (execSetupNotice_lists h) hcalm
  · exact hs.calm (exec_quiet (not_exists.1 hpresent) hgrant hsetup h).lists hcalm

/-- RESET leaves power-on values, under which the reset lines alone act (`EngineSound.exec_of_reset`); once it is
released, the ring stays as it should (`CommandRing.exec`). -/
theorem EngineSound.exec (hs : EngineSound s) {c : Instr} (h : exec c s = .next t) : EngineSound t := by
  by_cases hreset : c = .resetAssert
  · subst hreset
    obtain rfl := Host.Outcome.next.inj h
    exact engineSound_of_reset rfl
  cases hl : s.resetLine with
  | true =>
    obtain ⟨-, hholds, -⟩ := hs
    exact .exec_of_reset (hholds hl) h
  | false =>
    have hring := ((engineSound_iff hl).1 hs).exec hreset h
    exact (engineSound_iff hring.released).2 hring

/-- Settles O59: head and tail move at grants alone, by a head write within the ring (`CommandRing.grantHead`) and by
the tail write of the report at the tail (`CommandRing.moveTail`); every other command is calm (`exec_calm`) or starts
the engine afresh. -/
theorem stepKeepsCommandRing : Obligations.StepKeepsCommandRing := by
  intro s t hs h
  rcases step_cases h with ⟨-, rfl⟩ | ⟨c, rest, -, hc⟩
  · exact hs
  · refine EngineSound.exec (s := { s with pending := rest }) ?_ hc
    obtain ⟨hw, hholds, hrest⟩ := hs
    exact ⟨hw, fun hl => congrArg (fun u : State => { u with pending := rest }) (hholds hl), hrest⟩

end Sys2Proof.Machine
end

section
/-! QUERY_RING (R153): the view its parameter names, and the report of the view sampled. -/

namespace Sys2Proof.Machine

/-- The view parameter is the whole word, so no bit of it is ignored (R153). -/
theorem parseView_eq (w : Params) :
    parseView w = if w.w2 = 0 then some .status else if w.w2 = 1 then some .fault else none := by
  unfold parseView
  split
  next h => rw [if_pos (BitVec.eq_of_toNat_eq h)]
  next h =>
    have hone : w.w2 = 1 := BitVec.eq_of_toNat_eq h
    rw [hone]
    rfl
  next h0 h1 => rw [if_neg fun h => h0 (congrArg BitVec.toNat h), if_neg fun h => h1 (congrArg BitVec.toNat h)]

/-- Settles O40: the check of the ring's state allows every ring (`Executes.ringCommand`), and the report is
formed from the state as it stands (`report_of_current`, `finish_of_current`), with the words the view value picks
(`parseView_eq`). -/
theorem queryRingResult : Obligations.QueryRingResult := by
  intro s c r h
  obtain ⟨-, -, -, hcur, -⟩ := h.facts
  rw [exec, execQueryRing, h.performing rfl, h.ringCommand rfl]
  simp only [parseView_eq]
  split_ifs with hstatus hfault
  · exact congrArg Host.Outcome.next (report_of_current hcur .ok (statusView s r))
  · exact congrArg Host.Outcome.next (report_of_current hcur .ok (faultView s r))
  · exact congrArg Host.Outcome.next (finish_of_current hcur .badField)

end Sys2Proof.Machine
end

section
/-! The departure of a response (R161, R166) and the grant of the arbiter (R172 to R174): which requester is granted,
what its request is handed over as, and what the grant's effects inside the part leave alone. -/

namespace Sys2Proof.Machine

variable {s t u : State} {p : Port}

/-! ### Departure (R161, R166) -/

theorem depart_of_done {e : InFlight} {rest : List InFlight} {status : BusStatus} {data : List Word}
    (hl : s.inFlight p = e :: rest) (he : e.stage = .done status data) : depart p s =
      { s with
        ports := s.ports.set p { s.ports.get p with inFlight := rest }
        responseBus := s.responseBus.set p
          (s.responseBus.get p ++ [{ tag := e.request.tag, status := status, data := data }]) } := by
  simp only [depart, hl, he]
  rfl

theorem depart_of_not_done {e : InFlight} {rest : List InFlight} (hl : s.inFlight p = e :: rest)
    (he : ∀ status data, e.stage ≠ .done status data) : depart p s = s := by
  unfold depart
  rw [hl]
  dsimp only
  split
  · exact absurd ‹_› (he _ _)
  · rfl

/-- Settles O9: a front entry that is DONE departs (`depart_of_done`), and any other stays with all behind it
(`depart_of_not_done`). -/
theorem frontResponseLeaves : Obligations.FrontResponseLeaves := fun _ _ _ _ hl =>
  ⟨fun _ _ he => congrArg Host.Outcome.next (depart_of_done hl he),
    fun he => congrArg Host.Outcome.next (depart_of_not_done hl he)⟩

/-! ### What a grant's effects leave alone (R173) -/

/-- The arbiter's order, the memory port, the port buses and the time base are the same. -/
@[simp] def SameOutside (s t : State) : Prop :=
  t.order = s.order ∧ t.outstanding = s.outstanding ∧ t.memoryBus = s.memoryBus ∧ t.responseBus = s.responseBus ∧
    t.time = s.time

/-- From `s` to `t` the part's blocks alone change: nothing outside them does, nor RESET, and no request joins a
port's list. -/
structure Inside (s t : State) : Prop where
  lists : ∀ p, (t.inFlight p).length ≤ (s.inFlight p).length
  line : t.resetLine = s.resetLine
  outside : SameOutside s t

theorem Inside.of_calm (h : Calm s t) (same : SameOutside s t) : Inside s t := ⟨h.length, h.line, same⟩

theorem Inside.of_same (ports : t.ports = s.ports) (line : t.resetLine = s.resetLine) (same : SameOutside s t) :
    Inside s t := ⟨fun p => by simp only [State.inFlight, ports, le_refl], line, same⟩

theorem Inside.refl (s : State) : Inside s s := .of_same rfl rfl (by simp)

theorem Inside.trans (h : Inside s t) (h' : Inside t u) : Inside s u := by
  obtain ⟨order, outstanding, memoryBus, responseBus, time⟩ := h.outside
  obtain ⟨order', outstanding', memoryBus', responseBus', time'⟩ := h'.outside
  exact ⟨fun p => (h'.lists p).trans (h.lists p), h'.line.trans h.line, order'.trans order,
    outstanding'.trans outstanding, memoryBus'.trans memoryBus, responseBus'.trans responseBus, time'.trans time⟩

theorem Inside.setBody (r : RingId) (b : RingBody) : Inside s (s.setBody r b) := .of_same rfl rfl (by simp)

theorem Inside.setEngine (e : Engine) : Inside s (s.setEngine e) := .of_same rfl rfl (by simp)

theorem Inside.presentEngine (q : EngineRequest) : Inside s (presentEngine q s) := .setEngine _

theorem Inside.fetchOrIdle : Inside s (fetchOrIdle s) := .of_same (by simp) (by simp) (by simp)

theorem Inside.raiseRing (r : RingId) (k : RingKind) : Inside s (raiseRing r k s) :=
  .of_same (by simp) (by simp) (by simp)

theorem Inside.markCrossing (r : RingId) (b : RingBody) (before after : Nat) :
    Inside s (markCrossing r b before after s) := by
  have hraise (c : Prop) [Decidable c] (k : RingKind) (v : State) :
      Inside v (if c then Machine.raiseRing r k v else v) := by
    split
    · exact .raiseRing ..
    · exact .refl v
  exact (hraise ..).trans (hraise ..)

theorem Inside.applyIndex (r : RingId) (w : IndexWord) (v : Index) : Inside s (applyIndex r w v s) := by
  unfold Machine.applyIndex
  split
  · split
    · split
      · exact (Inside.setBody ..).trans (.markCrossing ..)
      · exact ((Inside.setBody ..).trans (.markCrossing ..)).trans (.of_calm (.retestHeld r) (by simp))
    · exact .refl s
  · exact .refl s

theorem Inside.observeIndex (p : Port) (r : RingId) (w : IndexWord) (x : WriteWord) :
    Inside s (observeIndex p r w x s) := by
  rcases observeIndex_cases p r w x s with h | ⟨b, fault, oh, ot, oh', ot', -, -, -, -, h | ⟨v, -, -, h⟩⟩ <;> rw [h]
  · exact .refl s
  · exact .setBody ..
  · exact (Inside.setBody ..).trans (.raiseRing ..)

theorem Inside.applyNoticeTail (p : Port) (v : Index) : Inside s (applyNoticeTail p v s) := by
  unfold Machine.applyNoticeTail
  split
  · exact .of_same rfl rfl (by simp)
  · exact .refl s

theorem Inside.restartEngine : Inside s (restartEngine s) := by
  unfold Machine.restartEngine
  dsimp only
  split
  · exact (Inside.presentEngine _).trans ((Inside.setEngine _).trans (.presentEngine _))
  · exact (Inside.presentEngine _).trans .fetchOrIdle

theorem Inside.applyHead (v : Index) : Inside s (applyHead v s) := by
  unfold Machine.applyHead
  dsimp only
  split
  · exact (Inside.setEngine _).trans .fetchOrIdle
  · exact (Inside.setEngine _).trans .restartEngine
  · exact .setEngine _

theorem Inside.grantEffect (p : Port) (e : InFlight) : Inside s (grantEffect p e s) := by
  unfold Machine.grantEffect
  split
  · exact .refl s
  · split
    · exact .applyNoticeTail ..
    · exact .applyHead _
    · split
      · exact .applyIndex ..
      · exact .observeIndex ..
    · split
      · exact .observeIndex ..
      · exact .refl s

theorem Inside.engineGrantEffect (k : EngineAccess) : Inside s (engineGrantEffect k s) := by
  unfold Machine.engineGrantEffect
  split
  · split
    · exact .of_same rfl rfl (by simp)
    · exact .refl s
  · split
    · exact (Inside.setEngine _).trans .fetchOrIdle
    · exact .refl s
  · split
    · exact .presentEngine _
    · exact .refl s
  all_goals exact .refl s

/-! ### The grant (R172, R174) -/

/-- What is handed over for a requester is its own request. -/
def OriginOf (s : State) (x : Access) : Requester → Origin → Prop
  | .port p, .port p' n _ _ => p' = p ∧ ∃ e ∈ s.inFlight p, e.stage = .eligible ∧ e.serial = n
  | .engine, .engine k => ∃ rest, s.engine.requests = { kind := k, access := x } :: rest
  | .notice, .notice u w => s.requester.job = some { unit := u, write := w, access := x, waiting := true }
  | _, _ => False

/-- From `s` to `t` requester `q`'s request `x` is handed to the memory port, after effects inside the part alone. -/
def HandsOver (s t : State) (q : Requester) (x : Access) : Prop :=
  ∃ u origin, Inside s u ∧ OriginOf s x q origin ∧ t = handOver q origin x u

theorem requestAt_port {x : Access} (h : requestAt s (.port p) = some x) :
    ∃ e, eligibleEntry s p = some e ∧ e.request.access = x := Option.map_eq_some_iff.1 h

theorem requestAt_engine {x : Access} (h : requestAt s .engine = some x) :
    ∃ k rest, s.engine.requests = { kind := k, access := x } :: rest := by
  obtain ⟨q, hq, rfl⟩ := Option.map_eq_some_iff.1 h
  obtain ⟨rest, hrest⟩ := List.head?_eq_some_iff.1 hq
  exact ⟨q.kind, rest, hrest⟩

theorem requestAt_notice {x : Access} (h : requestAt s .notice = some x) :
    ∃ u w, s.requester.job = some { unit := u, write := w, access := x, waiting := true } := by
  simp only [requestAt] at h
  split at h
  · rename_i j hj
    split at h
    · rename_i hw
      obtain rfl := Option.some.inj h
      exact ⟨j.unit, j.write, by rw [hj, ← hw]⟩
    · cases h
  · cases h

/-- A requester is seen at the arbiter when it has a request there. -/
theorem hasRequest_eq (s : State) (q : Requester) : hasRequest s q = (requestAt s q).isSome := by
  cases q with
  | port p => exact Option.isSome_map.symm
  | engine => cases h : s.engine.requests <;> simp [hasRequest, requestAt, h]
  | notice =>
    cases h : s.requester.job with
    | none => simp [hasRequest, requestAt, h]
    | some j => cases hw : j.waiting <;> simp [hasRequest, requestAt, h, hw]

theorem grantPort_handsOver {e : InFlight} (he : eligibleEntry s p = some e) :
    HandsOver s (grantPort p e s) (.port p) e.request.access := by
  set granted := changeEntry p InFlight.isEligible (fun e => { e with stage := .granted }) s
  have hgranted : Inside s granted := .of_calm (.changeEntry ..) (by simp [granted])
  have hdrain : Inside (grantEffect p e granted) (drainTestSeeding (grantEffect p e granted)) :=
    .of_calm .drainTestSeeding (by simp)
  have hel : e.stage = .eligible := by simpa [InFlight.isEligible] using List.find?_some he
  exact ⟨_, .port p e.serial e.ring? (isApplied s e), (hgranted.trans (.grantEffect p e)).trans hdrain,
    ⟨rfl, e, List.mem_of_find?_eq_some he, hel, rfl⟩, rfl⟩

/-- The grant hands the requester's request over. -/
theorem grantTo_handsOver {q : Requester} {x : Access} (h : requestAt s q = some x) :
    HandsOver s (grantTo q s) q x := by
  cases q with
  | port p =>
    obtain ⟨e, he, rfl⟩ := requestAt_port h
    simp only [grantTo, he]
    exact grantPort_handsOver he
  | engine =>
    obtain ⟨k, rest, hq⟩ := requestAt_engine h
    simp only [grantTo, hq]
    exact ⟨_, .engine k, (Inside.setEngine { s.engine with requests := rest }).trans (.engineGrantEffect k),
      ⟨rest, hq⟩, rfl⟩
  | notice =>
    obtain ⟨v, w, hj⟩ := requestAt_notice h
    simp only [grantTo, hj]
    have hjob : Inside s (s.setJob (some { unit := v, write := w, access := x, waiting := false })) :=
      .of_same rfl rfl (by simp)
    exact ⟨_, .notice v w, hjob, hj, rfl⟩

/-- With RESET released and room in the outstanding list, the highest requester that has a request is next (R172). -/
theorem nextGrant_cut {high low : List Requester} {q : Requester} {x : Access} (hl : s.resetLine = false)
    (hroom : s.outstanding.length < 8) (horder : s.order = high ++ q :: low)
    (hhigh : ∀ q' ∈ high, requestAt s q' = none) (hq : requestAt s q = some x) : nextGrant s = some q := by
  rw [nextGrant, if_neg (by simp [hl, hroom]), horder]
  exact find?_cut (fun q' hq' => by rw [hasRequest_eq, hhigh q' hq', Option.isSome_none])
    (by rw [hasRequest_eq, hq, Option.isSome_some])

/-- Nothing is granted while RESET is asserted, with the outstanding list full, or with no request (R172, R176). -/
theorem nextGrant_none (h : s.resetLine = true ∨ 8 ≤ s.outstanding.length ∨ ∀ q ∈ s.order, requestAt s q = none) :
    nextGrant s = none := by
  unfold nextGrant
  split
  · rfl
  · rename_i hopen
    rcases h with hl | hfull | hnone
    · simp [hl] at hopen
    · simp [hfull] at hopen
    · exact List.find?_eq_none.2 fun q hq => by simp [hasRequest_eq, hnone q hq]

/-- What a grant is given for: RESET is released, there is room, and the requester has a request (R172). -/
theorem nextGrant_some {q : Requester} (h : nextGrant s = some q) :
    s.outstanding.length < 8 ∧ q ∈ s.order ∧ ∃ x, requestAt s q = some x := by
  unfold nextGrant at h
  split at h
  · cases h
  · rename_i hopen
    refine ⟨?_, List.mem_of_find?_eq_some h, ?_⟩
    · simp only [Bool.or_eq_true, decide_eq_true_eq, not_or, not_le] at hopen
      exact hopen.2
    · exact Option.isSome_iff_exists.1 (hasRequest_eq s q ▸ List.find?_some h)

/-- The requester drops to the lowest place, and the others keep their order (R172). -/
theorem rotate_cut {high low : List Requester} {q : Requester} (h : q ∉ high) :
    rotate q (high ++ q :: low) = high ++ low ++ [q] := by
  rw [rotate, List.erase_append_right _ h, List.erase_cons_head]

/-- Settles O20: the highest requester with a request is next (`nextGrant_cut`) and is handed over
(`grantTo_handsOver`); without one nothing is granted (`nextGrant_none`). -/
theorem grantRotates : Obligations.GrantRotates := by
  refine fun s => ⟨fun high low q x hl hroom horder hhigh hq => ?_, fun h => ?_⟩
  · obtain ⟨u, origin, hinside, horigin, heq⟩ := grantTo_handsOver hq
    obtain ⟨order, outstanding, memoryBus, responseBus, time⟩ := hinside.outside
    have hnext : arbitrate s = handOver q origin x u := by
      simp only [arbitrate, nextGrant_cut hl hroom horder hhigh hq, heq]
    have hnot : q ∉ high := fun hmem => by simp [hhigh q hmem] at hq
    refine ⟨_, origin, congrArg Host.Outcome.next hnext, ?_, ?_, ?_, ?_, time, responseBus⟩
    · rw [handOver, order, horder, rotate_cut hnot]
    · rw [handOver, outstanding]
    · cases q <;> cases origin <;> exact horigin
    · rw [handOver, memoryBus]
  · exact congrArg Host.Outcome.next (by simp only [arbitrate, nextGrant_none h])

end Sys2Proof.Machine
end

section
/-! SUPPORT. Every command but a grant and the assertion and release of RESET grants nothing: no entry joins the
outstanding list, and the arbiter's order stays (R172, R174). -/

namespace Sys2Proof.Machine

variable {s t u : State} {p : Port}

/-- From `s` to `t` no entry joins the outstanding list, and the arbiter's order stays. -/
structure GrantsNothing (s t : State) : Prop where
  outstanding : t.outstanding.length ≤ s.outstanding.length
  order : t.order = s.order

theorem GrantsNothing.refl (s : State) : GrantsNothing s s := ⟨le_rfl, rfl⟩

theorem GrantsNothing.trans (h : GrantsNothing s t) (h' : GrantsNothing t u) : GrantsNothing s u :=
  ⟨h'.outstanding.trans h.outstanding, h'.order.trans h.order⟩

theorem GrantsNothing.of_same (outstanding : t.outstanding = s.outstanding) (order : t.order = s.order) :
    GrantsNothing s t := ⟨outstanding ▸ le_rfl, order⟩

theorem GrantsNothing.of_aside (h : Aside s t) : GrantsNothing s t := ⟨h.length.le, h.order⟩

/-! ### Shared operations -/

theorem GrantsNothing.setRing (r : RingId) (x : RingEntry) : GrantsNothing s (s.setRing r x) := .of_same rfl rfl

theorem GrantsNothing.setUnit (p : Port) (v : Option NoticeUnit) : GrantsNothing s (s.setUnit p v) := .of_same rfl rfl

theorem GrantsNothing.setJob (j : Option NoticeJob) : GrantsNothing s (s.setJob j) := .of_same rfl rfl

theorem GrantsNothing.changeEntry (p : Port) (test : InFlight → Bool) (f : InFlight → InFlight) :
    GrantsNothing s (changeEntry p test f s) := .of_same rfl rfl

theorem GrantsNothing.chargeViolation (r : RingId) (k : ViolationKind) (p : Port) (addr : Word) :
    GrantsNothing s (chargeViolation r k p addr s) := .of_same (by simp) (by simp)

theorem GrantsNothing.setOutstanding_map (f : OutEntry → OutEntry) :
    GrantsNothing s (s.setOutstanding (s.outstanding.map f)) := ⟨(List.length_map f).le, rfl⟩

theorem GrantsNothing.faultEntry (r : RingId) (cause : FaultCause) : GrantsNothing s (faultEntry r cause s) :=
  .of_aside (.faultEntry cause)

theorem GrantsNothing.haltEngine (info : HaltInfo) : GrantsNothing s (haltEngine info s) := by
  have hdiscard := GrantsNothing.setOutstanding_map (s := s) fun o =>
    if o.origin = .engine .fetch then { o with discarded := true } else o
  exact hdiscard.trans (.of_same (by simp [Machine.haltEngine]) (by simp))

theorem GrantsNothing.unitOff (p : Port) : GrantsNothing s (unitOff p s) := .of_same (by simp) (by simp)

theorem GrantsNothing.report (h : GrantsNothing s t) (status : CommandStatus) (words : Params) :
    GrantsNothing s (report status words t) := h.trans (.of_same (by simp) (by simp))

theorem GrantsNothing.finish (h : GrantsNothing s t) (status : CommandStatus) : GrantsNothing s (finish status t) :=
  h.report ..

theorem GrantsNothing.settleWait (h : GrantsNothing s t) (w : EngineWait) (status : CommandStatus) (words : Params) :
    GrantsNothing s (settleWait w status words t) := h.trans (.of_same (by simp) (by simp))

/-! ### Ring commands (R140 to R155, R159) -/

theorem GrantsNothing.fails (status : CommandStatus) : GrantsNothing s (Machine.finish status s) :=
  (GrantsNothing.refl s).finish status

theorem GrantsNothing.performRing {k : CommandCode} {allowed : RingEntry → Bool}
    {act : SlotWords → RingId → State → State} (h : ∀ w r, GrantsNothing s (act w r s)) :
    GrantsNothing s (performing k (fun w => ringCommand allowed (act w) w) s) :=
  performing_ind (.refl s) fun w => ringCommand_ind .fails (h w)

theorem GrantsNothing.performBody {k : CommandCode} {allowed : RingEntry → Bool}
    {act : SlotWords → RingId → RingBody → State → State} (h : ∀ w r b, GrantsNothing s (act w r b s)) :
    GrantsNothing s (performing k (fun w => ringCommand allowed (fun r => onBody (act w r) r) w) s) :=
  .performRing fun w r => onBody_ind .fails (h w r)

theorem GrantsNothing.execBadCommand (h : execBadCommand s = .next t) : GrantsNothing s t := by
  obtain rfl := Host.Outcome.next.inj h
  split
  · split
    · exact .fails _
    · exact .refl s
  · exact .refl s

theorem GrantsNothing.execDefineRing (h : execDefineRing s = .next t) : GrantsNothing s t := by
  obtain rfl := Host.Outcome.next.inj h
  refine .performRing fun w r => ?_
  split
  · exact .fails _
  · split
    · exact (GrantsNothing.of_same (by simp [startAfresh]) (by simp [startAfresh])).finish _
    · exact .fails _

theorem GrantsNothing.execReleaseRing (h : execReleaseRing s = .next t) : GrantsNothing s t := by
  obtain rfl := Host.Outcome.next.inj h
  exact .performRing fun _ r => (GrantsNothing.of_same (by simp) (by simp)).finish _

theorem GrantsNothing.beginSeeding (r : RingId) (b : RingBody) (purpose : SeedPurpose) :
    GrantsNothing s (beginSeeding r b purpose s) := .of_same (drainTest_outstanding ..) (drainTest_order ..)

theorem GrantsNothing.execArmRing (h : execArmRing s = .next t) : GrantsNothing s t := by
  obtain rfl := Host.Outcome.next.inj h
  exact .performBody fun _ r b => .beginSeeding r b _

theorem GrantsNothing.execDisarmRing (h : execDisarmRing s = .next t) : GrantsNothing s t := by
  obtain rfl := Host.Outcome.next.inj h
  refine .performBody fun _ r b => GrantsNothing.finish ?_ _
  exact (GrantsNothing.setOutstanding_map (OutEntry.dropApplied r)).trans
    (.of_same (by simp [dropAppliedMarks]) (by simp))

theorem GrantsNothing.execClearFault (h : execClearFault s = .next t) : GrantsNothing s t := by
  obtain rfl := Host.Outcome.next.inj h
  refine .performBody fun _ r b => ?_
  split
  · exact .beginSeeding r b _
  · exact .refl s

theorem GrantsNothing.execSetMarks (h : execSetMarks s = .next t) : GrantsNothing s t := by
  obtain rfl := Host.Outcome.next.inj h
  refine .performBody fun _ r b => ?_
  split
  · exact .fails _
  · exact (GrantsNothing.of_same (by simp) (by simp)).finish _

theorem GrantsNothing.settleHeldByGuard (r : RingId) (g : GuardMode) : GrantsNothing s (settleHeldByGuard r g s) := by
  unfold Machine.settleHeldByGuard
  split
  · exact .refl s
  · cases g with
    | hold => exact .refl s
    | observe => exact .of_same (by simp) (by simp)
    | refuse => exact .of_same (by simp) (by simp)

theorem GrantsNothing.execSetGuard (h : execSetGuard s = .next t) : GrantsNothing s t := by
  obtain rfl := Host.Outcome.next.inj h
  refine .performBody fun _ r b => ?_
  split
  · exact .fails _
  · exact ((GrantsNothing.setRing r _).trans (.settleHeldByGuard r _)).finish _

theorem GrantsNothing.moveNotify (r : RingId) (b : RingBody) (q : Port) (m : KindSet) :
    GrantsNothing s (moveNotify r b q m s) := by
  unfold Machine.moveNotify
  dsimp only
  split
  · exact .of_same (by simp) (by simp)
  · split <;> exact .of_same (by simp) (by simp)

theorem GrantsNothing.execSetNotify (h : execSetNotify s = .next t) : GrantsNothing s t := by
  obtain rfl := Host.Outcome.next.inj h
  refine .performBody fun _ r b => ?_
  split
  · exact .fails _
  · exact (GrantsNothing.moveNotify r b _ _).finish _

theorem GrantsNothing.execResetCounts (h : execResetCounts s = .next t) : GrantsNothing s t := by
  obtain rfl := Host.Outcome.next.inj h
  exact .performRing fun _ r => (GrantsNothing.of_same (by simp) (by simp)).finish _

theorem GrantsNothing.execQueryRing (h : execQueryRing s = .next t) : GrantsNothing s t := by
  obtain rfl := Host.Outcome.next.inj h
  refine .performRing fun _ r => ?_
  split
  · exact .fails _
  · exact (GrantsNothing.refl s).report ..
  · exact (GrantsNothing.refl s).report ..

theorem GrantsNothing.releaseAny (p : Port) : GrantsNothing s (releaseAny p s) := by
  unfold Machine.releaseAny
  split
  · exact .of_same (by simp) (by simp)
  · exact .refl s

theorem GrantsNothing.clearTable : GrantsNothing s (clearTable s) := by
  have hrelease : GrantsNothing s (Machine.releaseAny .b (Machine.releaseAny .a s)) :=
    (GrantsNothing.releaseAny .a).trans (.releaseAny .b)
  unfold Machine.clearTable
  exact (hrelease.trans (.setOutstanding_map OutEntry.dropAnyApplied)).trans (.of_same (by simp) (by simp))

theorem GrantsNothing.execResetTable (h : execResetTable s = .next t) : GrantsNothing s t := by
  obtain rfl := Host.Outcome.next.inj h
  exact performing_ind (.refl s) fun _ => GrantsNothing.clearTable.finish _

/-! ### Unit commands (R106, R108, R156 to R158) -/

theorem GrantsNothing.execSetupNotice (h : execSetupNotice s = .next t) : GrantsNothing s t := by
  obtain rfl := Host.Outcome.next.inj h
  refine performing_ind (.refl s) fun _ => unitCommand_ind .fails fun q => ?_
  split
  · exact .fails _
  · split
    · exact .of_same (by simp [beginSetup]) (by simp [beginSetup])
    · exact .fails _

theorem GrantsNothing.closeUnit (q : Port) : GrantsNothing s (closeUnit q s) := by
  unfold Machine.closeUnit
  split
  · exact .refl s
  · split
    · exact (GrantsNothing.unitOff q).report ..
    · exact (GrantsNothing.unitOff q).report ..
    · exact .of_same rfl rfl
    · exact .refl s

theorem GrantsNothing.execNoticeOff (h : execNoticeOff s = .next t) : GrantsNothing s t := by
  obtain rfl := Host.Outcome.next.inj h
  exact performing_ind (.refl s) fun _ => unitCommand_ind .fails GrantsNothing.closeUnit

/-! ### Memory's responses (R36, R41 to R43, R126 to R134, R175) -/

/-- The oldest entry leaves the outstanding list (R174). -/
theorem GrantsNothing.pop {o : OutEntry} {rest : List OutEntry} (h : s.outstanding = o :: rest) :
    GrantsNothing s (s.setOutstanding rest) := ⟨by simp [h], rfl⟩

theorem GrantsNothing.answered {isIt : Origin → Bool} {act : Origin → State → State}
    (h : ∀ o u, GrantsNothing u (act o u)) : GrantsNothing s (answered isIt act s) := by
  unfold Machine.answered
  split
  · exact .refl s
  · split
    · exact (GrantsNothing.pop ‹_›).trans (h _ _)
    · exact .refl s

theorem GrantsNothing.answered_only (isIt : Origin → Bool) :
    GrantsNothing s (Machine.answered isIt (fun _ t => t) s) := .answered fun _ u => .refl u

theorem GrantsNothing.answerPort (p : Port) (serial : Nat) (ring : Option RingId) (applied : Bool)
    (status : MemStatus) (data : List Word) : GrantsNothing s (answerPort p serial ring applied status data s) := by
  unfold Machine.answerPort
  split
  · exact .refl s
  · dsimp only
    split
    · split
      · exact (GrantsNothing.changeEntry ..).trans (.faultEntry ..)
      · exact .changeEntry ..
    · exact .changeEntry ..

theorem GrantsNothing.execMemoryResponse {status : MemStatus} {data : List Word}
    (h : execMemoryResponse status data s = .next t) : GrantsNothing s t := by
  obtain rfl := Host.Outcome.next.inj h
  refine .answered fun o u => ?_
  split
  · exact .answerPort ..
  · exact .refl u

theorem GrantsNothing.execDiscardedResponse (h : execDiscardedResponse s = .next t) : GrantsNothing s t := by
  obtain rfl := Host.Outcome.next.inj h
  unfold dropResponse
  split
  · exact .refl s
  · split
    · exact .pop ‹_›
    · exact .refl s

theorem GrantsNothing.fillSeed (r : RingId) (w : IndexWord) (seed : Seed) : GrantsNothing s (fillSeed r w seed s) := by
  unfold Machine.fillSeed
  split
  · split
    · split
      · dsimp only
        split
        · exact .of_same (by simp [settleSeeding]) (by simp [settleSeeding])
        · exact .of_same rfl rfl
      · exact .refl s
    · exact .refl s
  · exact .refl s

theorem GrantsNothing.execSeedResponse {status : MemStatus} {word : Word}
    (h : execSeedResponse status word s = .next t) : GrantsNothing s t := by
  obtain rfl := Host.Outcome.next.inj h
  refine .answered fun o u => ?_
  split
  · exact .fillSeed ..
  · exact .refl u

theorem GrantsNothing.execFetchResponse {status : MemStatus} {words : SlotWords}
    (h : execFetchResponse status words s = .next t) : GrantsNothing s t := by
  obtain rfl := Host.Outcome.next.inj h
  refine .answered fun _ u => ?_
  unfold fetched
  split
  · cases status with
    | okay => exact .of_same rfl rfl
    | memErr => exact .haltEngine _
  · exact .refl u

theorem GrantsNothing.execReportBurstResponse {status : MemStatus} (h : execReportBurstResponse status s = .next t) :
    GrantsNothing s t := by
  obtain rfl := Host.Outcome.next.inj h
  refine .answered fun _ u => ?_
  unfold reportBurstAnswered
  split
  · cases status with
    | okay => exact .of_same rfl rfl
    | memErr => exact .haltEngine _
  · exact .refl u

theorem GrantsNothing.execReportTailResponse {status : MemStatus} (h : execReportTailResponse status s = .next t) :
    GrantsNothing s t := by
  obtain rfl := Host.Outcome.next.inj h
  refine .answered fun _ u => ?_
  unfold reportTailAnswered
  split
  · split
    · cases status with
      | okay => exact .of_same rfl rfl
      | memErr => exact .haltEngine _
    · exact .refl u
  · exact .refl u

/-! ### The notice writer (R95, R107 to R111, R116) -/

theorem GrantsNothing.execSetupJob (h : execSetupJob s = .next t) : GrantsNothing s t := by
  obtain rfl := Host.Outcome.next.inj h
  unfold serveSetup
  split
  · split
    · exact .of_same rfl rfl
    · exact .refl s
  · exact .refl s

theorem GrantsNothing.setupAnswered (p : Port) (w : NoticeWrite) (status : MemStatus) :
    GrantsNothing s (setupAnswered p w status s) := by
  unfold Machine.setupAnswered
  split
  · exact .refl s
  · split
    · exact ((GrantsNothing.setJob none).trans (.unitOff p)).settleWait ..
    · exact .setJob _
    · exact ((GrantsNothing.setUnit ..).trans (.setJob none)).settleWait ..
    · exact .refl s

theorem GrantsNothing.execSetupWriteResponse {status : MemStatus} (h : execSetupWriteResponse status s = .next t) :
    GrantsNothing s t := by
  obtain rfl := Host.Outcome.next.inj h
  refine .answered fun o u => ?_
  split
  · exact .setupAnswered ..
  · exact .refl u

theorem GrantsNothing.execRecordTaking (h : execRecordTaking s = .next t) : GrantsNothing s t := by
  obtain rfl := Host.Outcome.next.inj h
  unfold serveRecord
  split
  · split
    · exact .of_same (by simp [takeRecord, serve]) (by simp [takeRecord, serve])
    · exact .refl s
  · exact .refl s

theorem GrantsNothing.failRecord (p : Port) (n : NoticeUnit) (rec : RecordInFlight) (closing : Bool)
    (f : FailingWrite) : GrantsNothing s (failRecord p n rec closing f s) := by
  have hback : GrantsNothing s
      (returnKinds p rec ((s.setUnit p (some { n with phase := .halted f })).setJob none)) := by
    rw [returnKinds_frame]
    exact .of_same rfl rfl
  unfold Machine.failRecord
  dsimp only
  split
  · exact (hback.trans (.unitOff p)).settleWait ..
  · exact hback

theorem GrantsNothing.completeRecord (p : Port) (n : NoticeUnit) (closing : Bool) :
    GrantsNothing s (completeRecord p n closing s) := by
  unfold Machine.completeRecord
  dsimp only
  split
  · exact ((GrantsNothing.setUnit ..).trans ((GrantsNothing.setJob none).trans (.unitOff p))).settleWait ..
  · exact (GrantsNothing.setUnit ..).trans (.setJob none)

theorem GrantsNothing.recordAnswered (p : Port) (w : NoticeWrite) (status : MemStatus) :
    GrantsNothing s (recordAnswered p w status s) := by
  unfold Machine.recordAnswered
  split
  · exact .refl s
  · split
    · split
      · exact .of_same rfl rfl
      · exact .failRecord ..
      · exact .completeRecord ..
      · exact .failRecord ..
      · exact .refl s
    · exact .refl s

theorem GrantsNothing.execRecordBurstResponse {status : MemStatus} (h : execRecordBurstResponse status s = .next t) :
    GrantsNothing s t := by
  obtain rfl := Host.Outcome.next.inj h
  refine .answered fun o u => ?_
  split
  · exact .recordAnswered ..
  · exact .refl u

theorem GrantsNothing.execNoticeHeadWriteResponse {status : MemStatus}
    (h : execNoticeHeadWriteResponse status s = .next t) : GrantsNothing s t := by
  obtain rfl := Host.Outcome.next.inj h
  refine .answered fun o u => ?_
  split
  · exact .recordAnswered ..
  · exact .refl u

/-! ### Presentations (R164 to R169) -/

/-- A counted violation, and the presented entry changed. -/
theorem GrantsNothing.charge (r : RingId) (k : ViolationKind) (addr : Word) (f : InFlight → InFlight) :
    GrantsNothing s (changePresented p f (Machine.chargeViolation r k p addr s)) :=
  (GrantsNothing.chargeViolation ..).trans (.changeEntry ..)

theorem GrantsNothing.presentIndexWrite (r : RingId) (w : IndexWord) (d : Descriptor) (head tail : Index)
    (addr : Word) (x : WriteWord) : GrantsNothing s (presentIndexWrite p r w d head tail addr x s) := by
  unfold Machine.presentIndexWrite
  split
  · exact .changeEntry ..
  · split
    · exact (GrantsNothing.chargeViolation ..).trans ((GrantsNothing.faultEntry ..).trans (.changeEntry ..))
    · exact .charge ..
    · exact .charge ..

theorem GrantsNothing.presentIndex (r : RingId) (w : IndexWord) (x : Access) :
    GrantsNothing s (presentIndex p r w x s) := by
  unfold Machine.presentIndex
  split
  · exact .changeEntry ..
  · split
    · exact .changeEntry ..
    · split
      · exact .presentIndexWrite ..
      · exact .changeEntry ..
    · exact .changeEntry ..
    · exact .changeEntry ..

theorem GrantsNothing.presentDataViolation (r : RingId) (d : Descriptor) (k : ViolationKind) (x : Access) :
    GrantsNothing s (presentDataViolation p r d k x s) := by
  unfold Machine.presentDataViolation
  split
  · exact .charge ..
  · exact .charge ..
  · split
    · unfold presentCandidate
      split
      · exact .of_same rfl rfl
      · exact .charge ..
    · exact .charge ..

theorem GrantsNothing.presentData (r : RingId) (x : Access) : GrantsNothing s (presentData p r x s) := by
  unfold Machine.presentData
  split
  · exact .changeEntry ..
  · split
    · exact .changeEntry ..
    · split
      · exact .changeEntry ..
      · exact .presentDataViolation ..
    · exact .changeEntry ..
    · exact .changeEntry ..

theorem GrantsNothing.refuseWindowWrite (cls : AccessClass) (x : Access) :
    GrantsNothing s (refuseWindowWrite p cls x s) := by
  have hraise : GrantsNothing s (raiseDevice s.mgmt .headRefused s) := .of_same (by simp) (by simp)
  unfold Machine.refuseWindowWrite
  dsimp only
  split
  · exact hraise.trans (.changeEntry ..)
  · exact .changeEntry ..

theorem GrantsNothing.presentWindow (cls : AccessClass) (x : Access) : GrantsNothing s (presentWindow p cls x s) := by
  unfold Machine.presentWindow
  split
  · exact .changeEntry ..
  · split
    · exact .changeEntry ..
    · split
      · exact .changeEntry ..
      · split
        · split
          · exact .changeEntry ..
          · exact .refuseWindowWrite ..
        · exact .refuseWindowWrite ..

theorem GrantsNothing.presentNotice (cls : AccessClass) (x : Access) : GrantsNothing s (presentNotice p cls x s) := by
  unfold Machine.presentNotice
  split
  · exact .changeEntry ..
  · split
    · split
      · split <;> exact .changeEntry ..
      · exact .changeEntry ..
    · exact .changeEntry ..

theorem GrantsNothing.presentCrossing (x : Access) : GrantsNothing s (presentCrossing p x s) := by
  unfold Machine.presentCrossing
  split
  · exact .changeEntry ..
  · split
    · exact .refuseWindowWrite ..
    · split
      · exact .changeEntry ..
      · dsimp only
        split <;> exact .charge ..

theorem GrantsNothing.presentClassified (x : Access) : GrantsNothing s (presentClassified p x s) := by
  unfold Machine.presentClassified
  split
  · exact .changeEntry ..
  · exact .presentData ..
  · exact .presentIndex ..
  · exact .presentIndex ..
  · exact .presentWindow ..
  · exact .presentWindow ..
  · exact .presentNotice ..
  · exact .presentNotice ..
  · exact .presentNotice ..
  · exact .presentCrossing _

theorem GrantsNothing.present (p : Port) (s : State) : GrantsNothing s (present p s) := by
  unfold Machine.present
  split
  · split
    · exact .refl s
    · split
      · exact .changeEntry ..
      · exact .presentClassified _
  · exact .refl s

/-! ### Departure and the time base (R67, R77, R166) -/

theorem GrantsNothing.execResponseDeparture (h : execResponseDeparture p s = .next t) : GrantsNothing s t := by
  obtain rfl := Host.Outcome.next.inj h
  unfold depart
  split
  · exact .refl s
  · split
    · exact .of_same rfl rfl
    · exact .refl s

theorem GrantsNothing.expire (p : Port) : GrantsNothing s (expire p s) := by
  unfold Machine.expire
  split
  · exact .refl s
  · split
    · exact .of_same (by simp) (by simp)
    · exact .refl s

theorem GrantsNothing.stepTime : GrantsNothing s (stepTime s) := by
  have htick : GrantsNothing s (tick s) := .of_same rfl rfl
  unfold Machine.stepTime
  split
  · exact .refl s
  · exact htick.trans ((GrantsNothing.expire .a).trans (.expire .b))

theorem GrantsNothing.execHoldExpiry (h : execHoldExpiry p s = .next t) : GrantsNothing s t := by
  obtain rfl := Host.Outcome.next.inj h
  split
  · exact .stepTime
  · exact .refl s

end Sys2Proof.Machine
end

section
/-! The passage (R162, R166, R172, R174): the bounds of the lists and the arbiter's four places under every command, and
RESET's hold on every block (R176). -/

namespace Sys2Proof.Machine

variable {s t u : State} {p : Port}

/-! ### Commands that neither accept nor grant a request -/

/-- From `s` to `t` no request joins a port's list or the outstanding list, and the arbiter's order and RESET stay. -/
structure NothingJoins (s t : State) : Prop extends GrantsNothing s t where
  lists : ∀ p, (t.inFlight p).length ≤ (s.inFlight p).length
  line : t.resetLine = s.resetLine

theorem NothingJoins.of_calm (h : Calm s t) (hg : GrantsNothing s t) : NothingJoins s t := ⟨hg, h.length, h.line⟩

theorem NothingJoins.setPortReset (level : Bool) : NothingJoins s (setPortReset p level s) :=
  .of_calm (.setPortReset level) (.of_same rfl rfl)

/-- The reset of a port empties its list and discards its outstanding entries where they stand (R177). -/
theorem NothingJoins.portResetEnd (p : Port) : NothingJoins s (portResetEnd p s) := by
  have hdiscards : GrantsNothing s (discardRequests p (Machine.setPortReset p true s)) :=
    ⟨(List.length_map (OutEntry.discardPort p)).le, rfl⟩
  have hgrants : GrantsNothing s (Machine.portResetEnd p s) := hdiscards.trans (.of_aside (portResetEnd_aside p s))
  have hsteps : Calm s (resetSteps p s) := ((Calm.setPortReset true).trans .discardRequests).trans .resetSteps
  obtain ⟨hlists, hline⟩ : (∀ q, ((Machine.portResetEnd p s).inFlight q).length ≤ (s.inFlight q).length) ∧
      (Machine.portResetEnd p s).resetLine = s.resetLine := by
    unfold Machine.portResetEnd
    split
    · have habandon := hsteps.trans (Calm.abandonSeeding.trans .abandonUnitWait)
      exact ⟨fun q => by simpa using habandon.length q, by simpa using habandon.line⟩
    · have hdrain := hsteps.trans .drainTestSeeding
      exact ⟨hdrain.length, hdrain.line⟩
  exact ⟨hgrants, hlists, hline⟩

theorem NothingJoins.execPortResetAssert (h : execPortResetAssert p s = .next t) : NothingJoins s t := by
  cases hp : s.portReset.get p with
  | true =>
    obtain rfl := Host.Outcome.next.inj h
    rw [assertPortReset, if_pos hp]
    exact .of_calm (.refl s) (.refl s)
  | false =>
    cases hl : s.resetLine with
    | true =>
      obtain rfl := Host.Outcome.next.inj h
      rw [assertPortReset, if_neg (by simp [hp]), if_pos hl]
      exact .setPortReset true
    | false =>
      have hnext := (execPortResetAssert_eq hp hl).symm.trans h
      exact Host.Outcome.next.inj hnext ▸ .portResetEnd p

theorem exec_nothingJoins {c : Instr} (haccept : ∀ p q, c ≠ .acceptance p q) (hgrant : c ≠ .grant)
    (hassert : c ≠ .resetAssert) (hrelease : ∀ base p, c ≠ .resetRelease base p) (h : exec c s = .next t) :
    NothingJoins s t := by
  cases c with
  | acceptance p q => exact absurd rfl (haccept p q)
  | grant => exact absurd rfl hgrant
  | resetAssert => exact absurd rfl hassert
  | resetRelease base p => exact absurd rfl (hrelease base p)
  | portResetAssert => exact .execPortResetAssert h
  | portResetDeassert => exact Host.Outcome.next.inj h ▸ .setPortReset false
  | presentation p => exact Host.Outcome.next.inj h ▸ .of_calm (.present p s) (.present p s)
  | memoryResponse => exact .of_calm (.execMemoryResponse h) (.execMemoryResponse h)
  | discardedResponse => exact .of_calm (.execDiscardedResponse h) (.execDiscardedResponse h)
  | responseDeparture => exact .of_calm (.execResponseDeparture h) (.execResponseDeparture h)
  | seedResponse => exact .of_calm (.execSeedResponse h) (.execSeedResponse h)
  | fetchResponse => exact .of_calm (.execFetchResponse h) (.execFetchResponse h)
  | reportBurstResponse => exact .of_calm (.execReportBurstResponse h) (.execReportBurstResponse h)
  | reportTailResponse => exact .of_calm (.execReportTailResponse h) (.execReportTailResponse h)
  | initialisationBurstResponse => exact Host.Outcome.next.inj h ▸ .of_calm (.answered_only _) (.answered_only _)
  | haltBurstResponse => exact Host.Outcome.next.inj h ▸ .of_calm (.answered_only _) (.answered_only _)
  | restartStatusWriteResponse => exact Host.Outcome.next.inj h ▸ .of_calm (.answered_only _) (.answered_only _)
  | badCommand => exact .of_calm (.execBadCommand h) (.execBadCommand h)
  | defineRing => exact .of_calm (.execDefineRing h) (.execDefineRing h)
  | releaseRing => exact .of_calm (.execReleaseRing h) (.execReleaseRing h)
  | armRing => exact .of_calm (.execArmRing h) (.execArmRing h)
  | disarmRing => exact .of_calm (.execDisarmRing h) (.execDisarmRing h)
  | clearFault => exact .of_calm (.execClearFault h) (.execClearFault h)
  | setMarks => exact .of_calm (.execSetMarks h) (.execSetMarks h)
  | setGuard => exact .of_calm (.execSetGuard h) (.execSetGuard h)
  | setNotify => exact .of_calm (.execSetNotify h) (.execSetNotify h)
  | queryRing => exact .of_calm (.execQueryRing h) (.execQueryRing h)
  | resetCounts => exact .of_calm (.execResetCounts h) (.execResetCounts h)
  | setupNotice => exact .of_calm (.execSetupNotice h) (.execSetupNotice h)
  | noticeOff => exact .of_calm (.execNoticeOff h) (.execNoticeOff h)
  | resetTable => exact .of_calm (.execResetTable h) (.execResetTable h)
  | setupJob => exact .of_calm (.execSetupJob h) (.execSetupJob h)
  | setupWriteResponse => exact .of_calm (.execSetupWriteResponse h) (.execSetupWriteResponse h)
  | recordTaking => exact .of_calm (.execRecordTaking h) (.execRecordTaking h)
  | recordBurstResponse => exact .of_calm (.execRecordBurstResponse h) (.execRecordBurstResponse h)
  | noticeHeadWriteResponse => exact .of_calm (.execNoticeHeadWriteResponse h) (.execNoticeHeadWriteResponse h)
  | timeBaseStep => exact Host.Outcome.next.inj h ▸ .of_calm .stepTime .stepTime
  | holdExpiry => exact .of_calm (.execHoldExpiry h) (.execHoldExpiry h)

/-! ### The bounds and the arbiter's places (R162, R172, R174) -/

/-- The passage's bounds: at most 8 entries in each list, and the four requesters in the arbiter's order. -/
structure PassageBounds (s : State) : Prop where
  lists : ∀ p, (s.inFlight p).length ≤ 8
  outstanding : s.outstanding.length ≤ 8
  order : OrderComplete s

theorem passageBounds_iff : PassageBounds s ↔ ListsBounded s ∧ OrderComplete s :=
  ⟨fun ⟨lists, outstanding, order⟩ => ⟨⟨bothPorts_iff.2 lists, outstanding⟩, order⟩,
    fun ⟨⟨lists, outstanding⟩, order⟩ => ⟨bothPorts_iff.1 lists, outstanding, order⟩⟩

theorem PassageBounds.nothingJoins (hs : PassageBounds s) (h : NothingJoins s t) : PassageBounds t where
  lists p := (h.lists p).trans (hs.lists p)
  outstanding := h.outstanding.trans hs.outstanding
  order := by
    rw [OrderComplete, h.order]
    exact hs.order

/-- A request is accepted where the port's list has room (R163). -/
theorem PassageBounds.accept (hs : PassageBounds s) (p : Port) (q : Request) : PassageBounds (accept p q s) := by
  unfold Machine.accept
  split
  · rename_i hmay
    refine ⟨fun p' => ?_, hs.outstanding, hs.order⟩
    by_cases hp : p' = p
    · subst hp
      have hroom : (s.inFlight p').length < 8 := by
        simp only [mayAccept, Bool.and_eq_true, decide_eq_true_eq] at hmay
        omega
      simpa [State.inFlight] using hroom
    · simpa [State.inFlight, PerPort.get_set_ne _ _ hp] using hs.lists p'
  · exact hs

theorem rotate_perm {q : Requester} {order : List Requester} (h : q ∈ order) : (rotate q order).Perm order :=
  (List.perm_append_singleton q _).trans (List.perm_cons_erase h).symm

/-- A request is granted where the outstanding list has room, and its requester keeps a place (R172). -/
theorem PassageBounds.arbitrate (hs : PassageBounds s) : PassageBounds (arbitrate s) := by
  unfold Machine.arbitrate
  split
  · rename_i q hq
    obtain ⟨hroom, hmem, x, hx⟩ := nextGrant_some hq
    obtain ⟨u, origin, hinside, -, heq⟩ := grantTo_handsOver hx
    obtain ⟨order, outstanding, -⟩ := hinside.outside
    rw [heq]
    refine ⟨fun p => (hinside.lists p).trans (hs.lists p), ?_, ?_⟩
    · rw [handOver, outstanding, List.length_append]
      exact hroom
    · rw [OrderComplete, handOver, order]
      exact (rotate_perm hmem).trans hs.order
  · exact hs

theorem PassageBounds.assertReset : PassageBounds (assertReset s) :=
  passageBounds_iff.2 (by decide : ListsBounded State.reset ∧ OrderComplete State.reset)

theorem PassageBounds.releaseReset (hs : PassageBounds s) (ctlBase : BitVec 21) (mgmtSel : Port) :
    PassageBounds (releaseReset ctlBase mgmtSel s) := by
  unfold Machine.releaseReset
  split
  · exact ⟨hs.lists, hs.outstanding, .refl powerOnOrder⟩
  · exact hs

theorem PassageBounds.exec (hs : PassageBounds s) {c : Instr} (h : exec c s = .next t) : PassageBounds t := by
  by_cases haccept : ∃ p q, c = .acceptance p q
  · obtain ⟨p, q, rfl⟩ := haccept
    exact Host.Outcome.next.inj h ▸ hs.accept p q
  by_cases hgrant : c = .grant
  · subst hgrant
    exact Host.Outcome.next.inj h ▸ hs.arbitrate
  by_cases hassert : c = .resetAssert
  · subst hassert
    exact Host.Outcome.next.inj h ▸ .assertReset
  by_cases hrelease : ∃ base p, c = .resetRelease base p
  · obtain ⟨base, p, rfl⟩ := hrelease
    exact Host.Outcome.next.inj h ▸ hs.releaseReset base p
  exact hs.nothingJoins (exec_nothingJoins (fun p q heq => haccept ⟨p, q, heq⟩) hgrant hassert
    (fun base p heq => hrelease ⟨base, p, heq⟩) h)

/-! ### RESET's hold (R176) -/

theorem arbitrate_resetLine (s : State) : (arbitrate s).resetLine = s.resetLine := by
  unfold arbitrate
  split
  · rename_i q hq
    obtain ⟨-, -, x, hx⟩ := nextGrant_some hq
    obtain ⟨u, origin, hinside, -, heq⟩ := grantTo_handsOver hx
    rw [heq]
    exact hinside.line
  · rfl

/-- RESET is asserted by its own command alone (R176). -/
theorem exec_released {c : Instr} (hassert : c ≠ .resetAssert) (hl : s.resetLine = false) (h : exec c s = .next t) :
    t.resetLine = false := by
  by_cases hgrant : c = .grant
  · subst hgrant
    exact Host.Outcome.next.inj h ▸ (arbitrate_resetLine s).trans hl
  by_cases haccept : ∃ p q, c = .acceptance p q
  · obtain ⟨p, q, rfl⟩ := haccept
    obtain rfl := Host.Outcome.next.inj h
    unfold accept
    split <;> exact hl
  by_cases hrelease : ∃ base p, c = .resetRelease base p
  · obtain ⟨base, p, rfl⟩ := hrelease
    obtain rfl := Host.Outcome.next.inj h
    rw [releaseReset, if_neg (by simp [hl])]
    exact hl
  exact (exec_nothingJoins (fun p q heq => haccept ⟨p, q, heq⟩) hgrant hassert
    (fun base p heq => hrelease ⟨base, p, heq⟩) h).line.trans hl

/-- Under RESET the reset lines alone act (`EngineSound.exec_of_reset`), and its assertion leaves power-on values. -/
theorem ResetHolds.exec (hs : ResetHolds s) {c : Instr} (h : exec c s = .next t) : ResetHolds t := by
  by_cases hassert : c = .resetAssert
  · subst hassert
    obtain rfl := Host.Outcome.next.inj h
    exact fun _ => rfl
  cases hl : s.resetLine with
  | true =>
    obtain ⟨-, hholds, -⟩ := EngineSound.exec_of_reset (hs hl) h
    exact hholds
  | false => exact fun hl' => absurd (hl'.symm.trans (exec_released hassert hl h)) (by decide)

/-- Settles O53: every command keeps the bounds and the arbiter's places (`PassageBounds.exec`), the order of answers
(`step_passes`), and RESET's hold (`ResetHolds.exec`). -/
theorem stepKeepsPassage : Obligations.StepKeepsPassage := by
  refine ⟨fun s t hlists horder hanswers h => ?_, fun s t hs h => ?_⟩ <;>
    rcases step_cases h with ⟨-, rfl⟩ | ⟨c, rest, -, hc⟩
  · exact ⟨hlists, horder, hanswers⟩
  · have hrest : PassageBounds { s with pending := rest } := passageBounds_iff.2 ⟨hlists, horder⟩
    obtain ⟨hlists', horder'⟩ := passageBounds_iff.1 (hrest.exec hc)
    exact ⟨hlists', horder', (step_passes h).order hanswers⟩
  · exact hs
  · have hrest : ResetHolds { s with pending := rest } := fun hl =>
      congrArg (fun v : State => { v with pending := rest }) (hs hl)
    exact hrest.exec hc

end Sys2Proof.Machine
end

section
/-! The queue of waiting commands: every command answers a next state and leaves that queue alone (log entries 1 and 25),
meaning by meaning, and a step takes the command at its front (log entry 2). -/

namespace Sys2Proof.Machine

variable (s : State)

/-- The outcome is a next state whose queue of waiting commands is that of `s`. -/
def Answers (o : Host.Outcome State Fault Refusal) : Prop := ∃ t, o = .next t ∧ t.pending = s.pending

variable {s} in
theorem Answers.next {t : State} (h : t.pending = s.pending) : Answers s (.next t) := ⟨t, rfl, h⟩

/-! ### The engine's commands (R129, R137 to R159) -/

@[simp] theorem finish_pending (status : CommandStatus) : (finish status s).pending = s.pending := report_pending ..

section
variable {s}

theorem performing_pending {k : CommandCode} {act : SlotWords → State → State}
    (h : ∀ w, (act w s).pending = s.pending) : (performing k act s).pending = s.pending :=
  performing_ind (P := fun t => t.pending = s.pending) rfl h

theorem performRing_pending {k : CommandCode} {allowed : RingEntry → Bool} {act : SlotWords → RingId → State → State}
    (h : ∀ w r, (act w r s).pending = s.pending) :
    (performing k (fun w => ringCommand allowed (act w) w) s).pending = s.pending :=
  performing_pending fun w => ringCommand_ind (P := fun t => t.pending = s.pending) (finish_pending s) (h w)

theorem performBody_pending {k : CommandCode} {allowed : RingEntry → Bool}
    {act : SlotWords → RingId → RingBody → State → State} (h : ∀ w r b, (act w r b s).pending = s.pending) :
    (performing k (fun w => ringCommand allowed (fun r => onBody (act w r) r) w) s).pending = s.pending :=
  performRing_pending fun w r => onBody_ind (P := fun t => t.pending = s.pending) (finish_pending s) (h w r)

theorem performUnit_pending {k : CommandCode} {allowed : Option NoticeUnit → Bool}
    {act : SlotWords → Port → State → State} (h : ∀ w p, (act w p s).pending = s.pending) :
    (performing k (fun w => unitCommand allowed (act w) w) s).pending = s.pending :=
  performing_pending fun w => unitCommand_ind (P := fun t => t.pending = s.pending) (finish_pending s) (h w)

end

theorem execBadCommand_answers : Answers s (execBadCommand s) := by
  refine .next ?_
  split
  · split
    · exact finish_pending ..
    · rfl
  · rfl

@[simp] theorem startAfresh_pending (r : RingId) (d : Descriptor) : (startAfresh r d s).pending = s.pending := by
  simp [startAfresh]

theorem execDefineRing_answers : Answers s (execDefineRing s) := by
  refine .next (performRing_pending fun w r => ?_)
  split
  · exact finish_pending ..
  · split <;> simp

theorem execReleaseRing_answers : Answers s (execReleaseRing s) :=
  .next (performRing_pending fun _ r => by simp)

@[simp] theorem beginSeeding_pending (r : RingId) (b : RingBody) (purpose : SeedPurpose) :
    (beginSeeding r b purpose s).pending = s.pending := drainTest_pending ..

theorem execArmRing_answers : Answers s (execArmRing s) :=
  .next (performBody_pending fun _ r b => beginSeeding_pending s r b _)

theorem execDisarmRing_answers : Answers s (execDisarmRing s) :=
  .next (performBody_pending fun _ r b => by simp)

theorem execClearFault_answers : Answers s (execClearFault s) := by
  refine .next (performBody_pending fun _ r b => ?_)
  split
  · exact beginSeeding_pending ..
  · rfl

theorem execSetMarks_answers : Answers s (execSetMarks s) := by
  refine .next (performBody_pending fun w r b => ?_)
  split <;> simp

@[simp] theorem settleHeldByGuard_pending (r : RingId) (g : GuardMode) :
    (settleHeldByGuard r g s).pending = s.pending := by
  unfold settleHeldByGuard
  split
  · rfl
  · cases g <;> simp

theorem execSetGuard_answers : Answers s (execSetGuard s) := by
  refine .next (performBody_pending fun w r b => ?_)
  split <;> simp

@[simp] theorem moveNotify_pending (r : RingId) (b : RingBody) (p : Port) (m : KindSet) :
    (moveNotify r b p m s).pending = s.pending := by
  unfold moveNotify
  dsimp only
  split
  · simp
  · split <;> simp

theorem execSetNotify_answers : Answers s (execSetNotify s) := by
  refine .next (performBody_pending fun w r b => ?_)
  split <;> simp

theorem execResetCounts_answers : Answers s (execResetCounts s) :=
  .next (performRing_pending fun _ r => by simp)

theorem execQueryRing_answers : Answers s (execQueryRing s) := by
  refine .next (performRing_pending fun w r => ?_)
  split <;> simp

theorem execSetupNotice_answers : Answers s (execSetupNotice s) := by
  refine .next (performUnit_pending fun w p => ?_)
  split
  · exact finish_pending ..
  · split <;> simp [beginSetup]

theorem closeUnit_pending (p : Port) : (closeUnit p s).pending = s.pending := by
  unfold closeUnit
  split
  · rfl
  · split <;> simp

theorem execNoticeOff_answers : Answers s (execNoticeOff s) :=
  .next (performUnit_pending fun _ => closeUnit_pending s)

@[simp] theorem releaseAny_pending (p : Port) : (releaseAny p s).pending = s.pending := by
  unfold releaseAny
  split <;> simp

theorem execResetTable_answers : Answers s (execResetTable s) :=
  .next (performing_pending fun _ => by simp [clearTable])

/-! ### Memory's responses (R36, R41 to R43, R126 to R134, R175) -/

variable {s} in
/-- A response's effect leaves the queue alone, so its arrival does. -/
theorem answered_pending {isIt : Origin → Bool} {act : Origin → State → State}
    (h : ∀ o u, (act o u).pending = u.pending) : (answered isIt act s).pending = s.pending := by
  unfold answered
  split
  · rfl
  · split
    · exact h _ _
    · rfl

theorem answerPort_pending (p : Port) (serial : Nat) (ring : Option RingId) (applied : Bool) (status : MemStatus)
    (data : List Word) : (answerPort p serial ring applied status data s).pending = s.pending := by
  unfold answerPort
  split
  · rfl
  · dsimp only
    split
    · split <;> simp
    · simp

theorem execMemoryResponse_answers (status : MemStatus) (data : List Word) :
    Answers s (execMemoryResponse status data s) := by
  refine .next (answered_pending fun o u => ?_)
  split
  · exact answerPort_pending ..
  · rfl

theorem execDiscardedResponse_answers : Answers s (execDiscardedResponse s) := by
  refine .next ?_
  unfold dropResponse
  split
  · rfl
  · split <;> rfl

theorem fillSeed_pending (r : RingId) (w : IndexWord) (seed : Seed) : (fillSeed r w seed s).pending = s.pending := by
  unfold fillSeed
  split
  · split
    · split
      · dsimp only
        split <;> simp [settleSeeding]
      · rfl
    · rfl
  · rfl

theorem execSeedResponse_answers (status : MemStatus) (word : Word) :
    Answers s (execSeedResponse status word s) := by
  refine .next (answered_pending fun o u => ?_)
  split
  · exact fillSeed_pending ..
  · rfl

theorem execFetchResponse_answers (status : MemStatus) (words : SlotWords) :
    Answers s (execFetchResponse status words s) := by
  refine .next (answered_pending fun _ u => ?_)
  unfold fetched
  split
  · cases status <;> simp
  · rfl

theorem execReportBurstResponse_answers (status : MemStatus) : Answers s (execReportBurstResponse status s) := by
  refine .next (answered_pending fun _ u => ?_)
  unfold reportBurstAnswered
  split
  · cases status <;> simp
  · rfl

theorem execReportTailResponse_answers (status : MemStatus) : Answers s (execReportTailResponse status s) := by
  refine .next (answered_pending fun _ u => ?_)
  unfold reportTailAnswered
  split
  · split
    · cases status <;> simp
    · rfl
  · rfl

/-! ### The notice writer (R95, R107 to R111, R116) -/

theorem execSetupJob_answers : Answers s (execSetupJob s) := by
  refine .next ?_
  unfold serveSetup
  split
  · split <;> rfl
  · rfl

theorem setupAnswered_pending (p : Port) (w : NoticeWrite) (status : MemStatus) :
    (setupAnswered p w status s).pending = s.pending := by
  unfold setupAnswered
  split
  · rfl
  · split <;> simp [failSetup, nextWrite]

theorem execSetupWriteResponse_answers (status : MemStatus) : Answers s (execSetupWriteResponse status s) := by
  refine .next (answered_pending fun o u => ?_)
  split
  · exact setupAnswered_pending ..
  · rfl

theorem takeRecord_pending (p : Port) (u : NoticeUnit) (closing : Bool) (src : Source) :
    (takeRecord p u closing src s).pending = s.pending := by
  simp [takeRecord, serve]

theorem execRecordTaking_answers : Answers s (execRecordTaking s) := by
  refine .next ?_
  unfold serveRecord
  split
  · split
    · exact takeRecord_pending ..
    · rfl
  · rfl

@[simp] theorem returnKinds_pending (p : Port) (rec : RecordInFlight) : (returnKinds p rec s).pending = s.pending := by
  rw [returnKinds_frame]

@[simp] theorem failRecord_pending (p : Port) (u : NoticeUnit) (rec : RecordInFlight) (closing : Bool)
    (f : FailingWrite) : (failRecord p u rec closing f s).pending = s.pending := by
  unfold failRecord
  dsimp only
  split <;> simp

@[simp] theorem completeRecord_pending (p : Port) (u : NoticeUnit) (closing : Bool) :
    (completeRecord p u closing s).pending = s.pending := by
  unfold completeRecord
  dsimp only
  split <;> simp

theorem recordAnswered_pending (p : Port) (w : NoticeWrite) (status : MemStatus) :
    (recordAnswered p w status s).pending = s.pending := by
  unfold recordAnswered
  split
  · rfl
  · split
    · split <;> simp [nextWrite]
    · rfl

theorem execRecordBurstResponse_answers (status : MemStatus) : Answers s (execRecordBurstResponse status s) := by
  refine .next (answered_pending fun o u => ?_)
  split
  · exact recordAnswered_pending ..
  · rfl

theorem execNoticeHeadWriteResponse_answers (status : MemStatus) :
    Answers s (execNoticeHeadWriteResponse status s) := by
  refine .next (answered_pending fun o u => ?_)
  split
  · exact recordAnswered_pending ..
  · rfl

/-! ### Acceptance, presentation and departure (R163 to R169) -/

theorem accept_pending (p : Port) (q : Request) : (accept p q s).pending = s.pending := by
  unfold accept
  split <;> rfl

@[simp] theorem changePresented_pending (p : Port) (f : InFlight → InFlight) :
    (changePresented p f s).pending = s.pending := changeEntry_pending ..

@[simp] theorem refusePresented_pending (p : Port) (cls : Option AccessClass) :
    (refusePresented p cls s).pending = s.pending := changePresented_pending ..

@[simp] theorem stallPresented_pending (p : Port) (cls : AccessClass) :
    (stallPresented p cls s).pending = s.pending := changePresented_pending ..

@[simp] theorem forwardPresented_pending (p : Port) (cls : AccessClass) (mark : Option ApplyMark) :
    (forwardPresented p cls mark s).pending = s.pending := changePresented_pending ..

@[simp] theorem holdPresented_pending (p : Port) (cls : AccessClass) (h : HoldSlot) :
    (holdPresented p cls h s).pending = s.pending := changePresented_pending ..

@[simp] theorem presentIndexWrite_pending (p : Port) (r : RingId) (w : IndexWord) (d : Descriptor) (head tail : Index)
    (addr : Word) (x : WriteWord) : (presentIndexWrite p r w d head tail addr x s).pending = s.pending := by
  unfold presentIndexWrite
  split
  · simp
  · split <;> simp

@[simp] theorem presentIndex_pending (p : Port) (r : RingId) (w : IndexWord) (x : Access) :
    (presentIndex p r w x s).pending = s.pending := by
  unfold presentIndex
  split
  · simp
  · split
    · simp
    · split <;> simp
    · simp
    · simp

@[simp] theorem presentCandidate_pending (p : Port) (r : RingId) (d : Descriptor) (x : Access) :
    (presentCandidate p r d x s).pending = s.pending := by
  unfold presentCandidate
  split <;> simp

@[simp] theorem presentDataViolation_pending (p : Port) (r : RingId) (d : Descriptor) (k : ViolationKind)
    (x : Access) : (presentDataViolation p r d k x s).pending = s.pending := by
  unfold presentDataViolation
  split
  · simp
  · simp
  · split <;> simp

@[simp] theorem presentData_pending (p : Port) (r : RingId) (x : Access) :
    (presentData p r x s).pending = s.pending := by
  unfold presentData
  split
  · simp
  · split
    · simp
    · split <;> simp
    · simp
    · simp

@[simp] theorem refuseWindowWrite_pending (p : Port) (cls : AccessClass) (x : Access) :
    (refuseWindowWrite p cls x s).pending = s.pending := by
  unfold refuseWindowWrite
  dsimp only
  split <;> simp

@[simp] theorem presentWindow_pending (p : Port) (cls : AccessClass) (x : Access) :
    (presentWindow p cls x s).pending = s.pending := by
  unfold presentWindow
  split
  · simp
  · split
    · simp
    · split
      · simp
      · split
        · split <;> simp
        · simp

@[simp] theorem presentNotice_pending (p : Port) (cls : AccessClass) (x : Access) :
    (presentNotice p cls x s).pending = s.pending := by
  unfold presentNotice
  split
  · simp
  · split
    · split
      · split <;> simp
      · simp
    · simp

@[simp] theorem presentCrossing_pending (p : Port) (x : Access) : (presentCrossing p x s).pending = s.pending := by
  unfold presentCrossing
  split
  · simp
  · split
    · simp
    · split
      · simp
      · dsimp only
        split <;> simp

@[simp] theorem presentClassified_pending (p : Port) (x : Access) : (presentClassified p x s).pending = s.pending := by
  unfold presentClassified
  split <;> simp

theorem present_pending (p : Port) : (present p s).pending = s.pending := by
  unfold present
  split
  · split
    · rfl
    · split <;> simp
  · rfl

theorem depart_pending (p : Port) : (depart p s).pending = s.pending := by
  unfold depart
  split
  · rfl
  · split <;> rfl

/-! ### Grants (R172, R173) -/

@[simp] theorem markCrossing_pending (r : RingId) (b : RingBody) (before after : Nat) :
    (markCrossing r b before after s).pending = s.pending := by
  simp [markCrossing, apply_ite State.pending]

@[simp] theorem applyIndex_pending (r : RingId) (w : IndexWord) (v : Index) :
    (applyIndex r w v s).pending = s.pending := by
  unfold applyIndex
  split
  · split
    · cases w <;> simp
    · rfl
  · rfl

@[simp] theorem observeIndex_pending (p : Port) (r : RingId) (w : IndexWord) (x : WriteWord) :
    (observeIndex p r w x s).pending = s.pending := by
  rcases observeIndex_cases p r w x s with h | ⟨b, fault, oh, ot, oh', ot', -, -, -, -, h | ⟨v, -, -, h⟩⟩ <;> simp [h]

@[simp] theorem applyNoticeTail_pending (p : Port) (v : Index) : (applyNoticeTail p v s).pending = s.pending := by
  unfold applyNoticeTail
  split <;> simp

@[simp] theorem restartEngine_pending : (restartEngine s).pending = s.pending := by
  unfold restartEngine
  dsimp only
  split <;> simp

@[simp] theorem applyHead_pending (v : Index) : (applyHead v s).pending = s.pending := by
  unfold applyHead
  dsimp only
  split <;> simp

@[simp] theorem grantEffect_pending (p : Port) (e : InFlight) : (grantEffect p e s).pending = s.pending := by
  unfold grantEffect
  split
  · rfl
  · split
    · simp
    · simp
    · split <;> simp
    · split <;> simp

@[simp] theorem engineGrantEffect_pending (k : EngineAccess) : (engineGrantEffect k s).pending = s.pending := by
  unfold engineGrantEffect
  split
  · split <;> rfl
  · split <;> simp
  · split <;> simp
  all_goals rfl

@[simp] theorem handOver_pending (q : Requester) (origin : Origin) (x : Access) :
    (handOver q origin x s).pending = s.pending := rfl

theorem grantTo_pending (q : Requester) : (grantTo q s).pending = s.pending := by
  unfold grantTo
  split
  · split <;> simp [grantPort]
  · split <;> simp [grantEngine]
  · split <;> simp [grantNotice]

theorem arbitrate_pending : (arbitrate s).pending = s.pending := by
  unfold arbitrate
  split
  · exact grantTo_pending ..
  · rfl

/-! ### The reset lines (R176 to R179) -/

theorem releaseReset_pending (ctlBase : BitVec 21) (mgmtSel : Port) :
    (releaseReset ctlBase mgmtSel s).pending = s.pending := by
  unfold releaseReset
  split <;> simp

@[simp] theorem setPortReset_pending (p : Port) (level : Bool) : (setPortReset p level s).pending = s.pending := rfl

@[simp] theorem discardRequests_pending (p : Port) : (discardRequests p s).pending = s.pending := rfl

theorem foldl_faultEntry_pending (cause : FaultCause) (l : List RingId) :
    (l.foldl (fun t r => faultEntry r cause t) s).pending = s.pending := by
  induction l generalizing s with
  | nil => rfl
  | cons r l ih => exact (ih _).trans (faultEntry_pending s r cause)

@[simp] theorem faultTracking_pending : (faultTracking s).pending = s.pending := foldl_faultEntry_pending ..

@[simp] theorem resetUnit_pending (p : Port) : (resetUnit p s).pending = s.pending := by
  unfold resetUnit
  dsimp only
  split <;> simp

@[simp] theorem abandonSeeding_pending : (abandonSeeding s).pending = s.pending := by
  rcases abandonSeeding_cases s with ⟨h, -⟩ | ⟨r, b, rec, -, -, -, h⟩ <;> simp [h]

@[simp] theorem abandonUnitWait_pending : (abandonUnitWait s).pending = s.pending := by
  unfold abandonUnitWait
  split <;> simp

@[simp] theorem reinitEngine_pending : (reinitEngine s).pending = s.pending := by
  unfold reinitEngine
  split <;> simp

theorem assertPortReset_pending (p : Port) : (assertPortReset p s).pending = s.pending := by
  unfold assertPortReset
  split
  · rfl
  · split
    · rfl
    · dsimp only
      split <;> simp

/-! ### The time base (R67, R77) -/

@[simp] theorem expire_pending (p : Port) : (expire p s).pending = s.pending := by
  unfold expire
  split
  · rfl
  · split <;> simp

theorem stepTime_pending : (stepTime s).pending = s.pending := by
  unfold stepTime
  split
  · rfl
  · simp [tick]

theorem execHoldExpiry_answers (p : Port) : Answers s (execHoldExpiry p s) := by
  refine .next ?_
  split
  · exact stepTime_pending s
  · rfl

/-! ### Every command and every step -/

theorem exec_answers (c : Instr) : Answers s (exec c s) :=
  match c with
  | .resetAssert => .next rfl
  | .resetRelease ctlBase mgmtSel => .next (releaseReset_pending s ctlBase mgmtSel)
  | .portResetAssert p => .next (assertPortReset_pending s p)
  | .portResetDeassert p => .next (setPortReset_pending s p false)
  | .acceptance p q => .next (accept_pending s p q)
  | .presentation p => .next (present_pending s p)
  | .grant => .next (arbitrate_pending s)
  | .memoryResponse status data => execMemoryResponse_answers s status data
  | .discardedResponse => execDiscardedResponse_answers s
  | .responseDeparture p => .next (depart_pending s p)
  | .seedResponse status word => execSeedResponse_answers s status word
  | .fetchResponse status words => execFetchResponse_answers s status words
  | .reportBurstResponse status => execReportBurstResponse_answers s status
  | .reportTailResponse status => execReportTailResponse_answers s status
  | .initialisationBurstResponse _ => .next (answered_pending fun _ _ => rfl)
  | .haltBurstResponse _ => .next (answered_pending fun _ _ => rfl)
  | .restartStatusWriteResponse _ => .next (answered_pending fun _ _ => rfl)
  | .badCommand => execBadCommand_answers s
  | .defineRing => execDefineRing_answers s
  | .releaseRing => execReleaseRing_answers s
  | .armRing => execArmRing_answers s
  | .disarmRing => execDisarmRing_answers s
  | .clearFault => execClearFault_answers s
  | .setMarks => execSetMarks_answers s
  | .setGuard => execSetGuard_answers s
  | .setNotify => execSetNotify_answers s
  | .queryRing => execQueryRing_answers s
  | .resetCounts => execResetCounts_answers s
  | .setupNotice => execSetupNotice_answers s
  | .noticeOff => execNoticeOff_answers s
  | .resetTable => execResetTable_answers s
  | .setupJob => execSetupJob_answers s
  | .setupWriteResponse status => execSetupWriteResponse_answers s status
  | .recordTaking => execRecordTaking_answers s
  | .recordBurstResponse status => execRecordBurstResponse_answers s status
  | .noticeHeadWriteResponse status => execNoticeHeadWriteResponse_answers s status
  | .timeBaseStep => .next (stepTime_pending s)
  | .holdExpiry p => execHoldExpiry_answers s p

/-- Settles O2: every meaning is a next state with its own frame at the queue (`exec_answers`). -/
theorem everyCommandAnswers : Obligations.EveryCommandAnswers := fun c s => exec_answers s c

theorem step_of_cons {c : Instr} {rest : List Instr} (h : s.pending = c :: rest) :
    step s = exec c { s with pending := rest } := by
  rw [step, h]

theorem step_of_nil (h : s.pending = []) : step s = .next s := by
  rw [step, h]

/-- Settles O1: the queue's front command runs (`step_of_cons`), and an empty queue idles (`step_of_nil`). -/
theorem stepTakesFrontCommand : Obligations.StepTakesFrontCommand :=
  ⟨fun _ _ s h => step_of_cons s h, step_of_nil⟩

end Sys2Proof.Machine
end
